-- ==== Sys2Proof/Word.lean ====
section
/-! DEFINITION. The word types of the block (R1, R2) and their plainest arithmetic. -/

namespace Sys2Proof

/-- One byte, in the order of R1. -/
abbrev Byte := BitVec 8
/-- 16-bit object value (R381). -/
abbrev U16 := BitVec 16
/-- 32-bit object value (R381). -/
abbrev U32 := BitVec 32
/-- 64-bit word: descriptors, records, headers. -/
abbrev U64 := BitVec 64

/-- The value of `n` in 32 bits, wrapping (R212: counters are modulo 2^32). -/
def u32 (n : Nat) : U32 := BitVec.ofNat 32 n
/-- The value of `n` in 64 bits, wrapping. -/
def u64 (n : Nat) : U64 := BitVec.ofNat 64 n

end Sys2Proof
end

