-- ==== Sys2Proof/Syntax.lean ====
section
/-! DEFINITION. The commands of the block: one constructor of `Instr` for each row of the table of
operations and events, with the operands the spec gives the row, and the data those operands carry. -/

namespace Sys2Proof

/-- The three management paths of R387, in path order; an in-band station is named by its SRC_NODE (R389). -/
inductive Path where
  | regPort
  | inBand (station : U32)
  | i3c
  deriving DecidableEq, Repr

/-- A span: the aligned range of `2^k` contributor indices from `base` (R10). -/
structure Span where
  base : Nat
  k : Nat
  deriving DecidableEq, Repr

/-- The 3-bit non-finite sideband of one element (R50). -/
structure Sideband where
  nan : Bool := false
  pinf : Bool := false
  ninf : Bool := false
  deriving DecidableEq, Repr

/-- One element on the headrace or tailrace: a sinter integer, or a bit pattern as a non-negative
integer, with its sideband (R50, R267). -/
structure Lane where
  val : Int
  side : Sideband := {}
  deriving DecidableEq, Repr

/-- A descriptor: eight words (R105). -/
structure Desc where
  w0 : U64
  w1 : U64
  w2 : U64
  w3 : U64
  w4 : U64
  w5 : U64
  w6 : U64
  w7 : U64
  deriving DecidableEq, Repr

/-- The agreement block of R263; its word 3 is always 0. DESIGN CHOICE (log entry 11). -/
structure Agreement where
  w0 : U64
  w1 : U64
  w2 : U64
  deriving DecidableEq, Repr

/-- The message codes of R266 that stand between nodes; the packed codes of R298 exist on an adit only. -/
inductive MsgCode where
  | segment | prepass | statsPass
  | result | commit | retry | prepassAnswer | statsRow | statsPartial | statsMerged
  | openNote | abort | barrierArrive | barrierRelease | stepArrive | stepRelease
  | pause | resume | spanReport
  deriving DecidableEq, Repr

/-- An error with its detail, as an ABORT carries it (R136, R266). -/
structure FailInfo where
  code : Nat
  nodeId : U32
  contrib : Nat
  plane : Nat
  objKind : Nat
  obj : Nat
  cause : Nat
  sumpSeq : U32
  deriving DecidableEq, Repr

/-- The summary of a STEP_BARRIER arrival (R213). -/
structure StepSummary where
  issued : U32
  delivered : U32
  accepted : U32
  credits : U32
  fail : Option FailInfo
  deriving DecidableEq, Repr

/-- The body of a message (R266, R267). -/
inductive Body where
  | none
  | lanes (ls : List Lane) (scales : List Int)
  | exps (es : List Int)
  | scaleVec (xs : List Int)
  | rows (ws : List Nat)
  | slots (ss : List Nat)
  | merged (hdr : List U64) (cols : List Nat)
  | fail (f : FailInfo)
  | summary (t : StepSummary)
  | spans (l : List Span)
  | report (occupied rank : Nat)
  deriving DecidableEq, Repr

/-- A message on virtual channels 0 to 2: the header of R262 with its agreement, chunk and Eddy blocks
and its body. `paused` and `outRange` are the marks of R223 and R56 that a message carries on the die
and for which R262 gives no bit on a link. DESIGN CHOICE (log entry 69). -/
structure Message where
  code : MsgCode
  plane : Nat
  bucket : U32 := 0
  step : U64 := 0
  attempt : Nat := 0
  run : Nat := 0
  span : Span := ⟨0, 0⟩
  seg : Nat := 0
  firstElem : Nat := 0
  lastSeg : Bool := false
  ovf : Bool := false
  maxexp : Int := -32768
  agree : Option Agreement := none
  chunk : Option (Nat × Nat) := none
  body : Body := .none
  eddy : Option (List Nat) := none
  paused : Bool := false
  outRange : Bool := false
  deriving DecidableEq, Repr

/-- The unit that a downward message reaches: a tap, or a quern from its parent. -/
inductive UnitRef where
  | tap (t : Nat)
  | quern (q : Nat)
  deriving DecidableEq, Repr

/-- Where an ABORT arrives: at a quern's input on its way up, or at a unit on its way down (R132). -/
inductive Arrival where
  | up (q input : Nat)
  | down (u : UnitRef)
  deriving DecidableEq, Repr

/-- A time message of R233; the sub-nanosecond fractions are in units of 2^-16 ns. -/
structure TimeMsg where
  kind : Nat
  state : Nat
  seq : U32
  tTx : Nat
  tRx : Nat := 0
  tEcho : Nat := 0
  tTxFrac : Nat := 0
  tRxFrac : Nat := 0
  tEchoFrac : Nat := 0
  bound : U32 := 0
  deriving DecidableEq, Repr

/-- A port of the instance: lattice or adit (R393). -/
inductive PortRef where
  | lattice (p : Nat)
  | adit (a : Nat)
  deriving DecidableEq, Repr

/-- The write forms that cover descriptor word 7 (R139, R140). -/
inductive PostWrite where
  | word7 (v : U64)
  | line (d : Desc)
  deriving DecidableEq, Repr

/-- An access to an object or register without a row of its own: a window access, a mailbox register
access, or an object dictionary write (R139, R382, R391). -/
inductive RegAccess where
  | windowWrite (t offset size : Nat) (data : Nat)
  | windowRead (t offset size : Nat)
  | mailboxWrite (offset size : Nat) (data : Nat)
  | mailboxRead (offset size : Nat)
  | odWrite (p : Path) (index sub : Nat) (data : List Byte)
  | odRead (p : Path) (index sub : Nat)
  deriving DecidableEq, Repr

/-- What a line-rate check finds in the unit while it works: nothing, or the failure of a check of R336
(a computation fault is nothing the commands could otherwise show). DESIGN CHOICE (log entry 87). -/
inductive Upset where
  | none | echo | residue | ecc
  deriving DecidableEq, Repr

/-- Where a downward message arrives, and whether the replication there loses its codeword (R336, log entry 87). -/
structure Downward where
  unit : UnitRef
  upset : Upset := .none
  deriving DecidableEq, Repr

/-- Where a scrub or access finds an uncorrectable codeword (the rows of the table of R354). -/
inductive EccLocation where
  | quernState (q : Nat)
  | rootStage (q : Nat)
  | tapState (t : Nat)
  | latticeRetry (p : Nat)
  | aditRing (a : Nat)
  | flagMaster (codeword : Nat)
  | aditLanding (a seq : Nat)
  | galleryEntry (step bucket sel plane : Nat)
  | galleryRow (step : Nat)
  | object (index sub : Nat)
  | microcode (slot : Nat)
  | sumpRecord (seq : Nat)
  deriving DecidableEq, Repr

/-- One in-band routing header with its request or response (R393, R385). -/
structure IbMsg where
  rmode : Nat
  hops : Nat
  hopLimit : Nat
  pathLen : Nat
  destNode : U32
  srcNode : U32
  response : Bool
  fwdPath : List Nat
  retPath : List Nat
  request : List Byte
  deriving DecidableEq, Repr

/-- What a child sends its parent while an epoch is prepared (R314). -/
structure ExchangeInfo where
  plane : Nat
  classWord : U64
  seedPrint : U64
  span : Span
  occupied : Nat
  rank : Nat
  deriving DecidableEq, Repr

/-- One in-flight entry of a context image (R165, R166). -/
structure ImageEntry where
  desc : Desc
  state : List U64
  deriving DecidableEq, Repr

/-- The fields of a context image (R165); Machine/Image.lean lays them out as bytes. -/
structure CtxImage where
  version : Nat
  originTap : Nat
  contrib : Nat
  treeEpoch : Nat
  gtcSaved : U64
  gtcFinal : U64
  sluiceMember : BitVec 16
  sluiceDrive : BitVec 16
  posted : U32
  busyCount : U16
  cqTail : U32
  cqHead : U32
  cqBase : U64
  cqSize : U32
  counters : List (List U32)
  stage : Desc
  flags : BitVec 4096
  inFlight : List ImageEntry
  unstarted : List Desc
  dupWindow : List Desc
  deriving DecidableEq, Repr

/-- The acknowledgement and credit payload of a link control flit (R270). -/
structure LcfInfo where
  ack : Nat
  nak : Bool
  freedVc0 : List Nat
  freedVc1 : List Nat
  freedVc2 : Nat
  freedVc3 : Nat
  freedVc4 : Nat
  deriving DecidableEq, Repr

/-- The commands: one constructor for each row of the table of operations and events. Operands named
`elapsed` are the count of the timer whose expiry the row is, in the unit of the timer's object; `corrected` counts the FEC symbols
corrected per lane. A transfer on an interface is one command (log entry 109). -/
inductive Instr where
  -- tap window (05, 07)
  | descPost (t : Nat) (w : PostWrite)
  | cqHeadWrite (t : Nat) (v : U64)
  | flagSet (t : Nat) (v : U64)
  | flagClear (t : Nat) (v : U64)
  | claim (t flag size : Nat)
  | poll (t offset size : Nat)
  | sluicePoll (t : Nat) (drive : Bool)
  | sluiceArrive (t : Nat) (v : U64)
  | sluiceBlankingEnd (g elapsed : Nat)
  | sluiceMemberWrite (p : Path) (t : Nat) (v : U32)
  | registerWrite (a : RegAccess)
  -- descriptors, memory port, drains, handover (04, 05, 06)
  | descStart (t : Nat)
  | memReadResponse (port tag : Nat) (data : List Byte) (poison : Bool) (u : Upset)
  | memWriteResponse (port tag : Nat) (werr : Bool)
  | tileSettled (t : Nat)
  | drainTimeout (t elapsed : Nat)
  | handoverAccept
  -- querns (01, 03, 07, 13)
  | segment (q input : Nat) (m : Message) (u : Upset)
  | spareSwitchDone (spare : Nat)
  | waitingSegmentAccepted (q input : Nat)
  | prepass (q input : Nat) (m : Message)
  | prepassAnswer (u : Downward) (m : Message)
  | result (u : Downward) (m : Message)
  | commit (u : Downward) (m : Message)
  | retry (u : Downward) (m : Message)
  | statsRow (u : Downward) (m : Message)
  | statsPartial (u : Downward) (m : Message)
  | statsPass (q input : Nat) (m : Message) (u : Upset)
  | statsMerged (u : Downward) (m : Message)
  | openNote (q input : Nat) (m : Message)
  | abort (at_ : Arrival) (m : Message)
  | barrierArrive (q input : Nat) (m : Message)
  | barrierRelease (u : UnitRef) (m : Message)
  | stepArrive (q input : Nat) (m : Message)
  | stepRelease (u : UnitRef) (m : Message)
  | pause (q input : Nat) (m : Message)
  | resume (q input : Nat) (m : Message)
  | spanReport (port : PortRef) (m : Message)
  | bucketTimeout (q plane : Nat) (bucket : U32) (step : U64) (elapsed : Nat)
  | tapBackstopTimeout (t : Nat) (bucket : U32) (step : U64) (elapsed : Nat)
  | pauseCmdPause (p : Path)
  | pauseCmdResume (p : Path)
  | pauseExpiry (q elapsed : Nat)
  | pollWatchdog (t elapsed : Nat)
  | odFlagSet (p : Path) (v : U16)
  | odFlagClear (p : Path) (v : U16)
  -- global time and launch (08)
  | gtcTick
  | timeReqSend (elapsed : Nat)
  | timeReq (port : PortRef) (m : TimeMsg)
  | timeResp (port : PortRef) (m : TimeMsg)
  | servoWindow
  | holdoverMaxExpiry (elapsed : Nat)
  | gtcSet (p : Path) (v : U64)
  | arm (p : Path)
  | disarm (p : Path)
  | launchLead
  | launchFire
  -- lattice ports (09)
  | laneSignalDetect (port lane : Nat)
  | laneSignalLoss (port : Nat) (lanes : BitVec 8)
  | absentBurst (port elapsed : Nat)
  | trainingBlock (port lane : Nat) (mirrored : Bool) (bytes : List Byte)
  | trainingComplete (port : Nat)
  | flitTx (port : Nat)
  | flitRx (port : Nat) (bytes : List Byte) (fecFail : Bool) (corrected : List Nat)
  | lcf (port : Nat) (i : LcfInfo)
  | lcfInterval (port elapsed : Nat)
  | replayTimer (port elapsed : Nat)
  | linkRecoveryTimeout (port elapsed : Nat)
  | latticeEnable (p : Path) (port : Nat)
  | latticeDisable (p : Path) (port : Nat)
  | retrain (p : Path) (port : Nat)
  | test (p : Path) (port : Nat)
  | quietEntry (port : Nat)
  | quietRefresh (port elapsed : Nat)
  -- adit ports (10)
  | aditLinkUp (a : Nat)
  | aditLinkDown (a : Nat)
  | data (a : Nat) (frame : List Byte) (err : Bool)
  | ctrl (a : Nat) (frame : List Byte) (err : Bool)
  | hello (a : Nat) (frame : List Byte) (err : Bool)
  | helloTimer (a elapsed : Nat)
  | aditFrameTx (a : Nat)
  | frameHoldExpiry (a stream elapsed : Nat)
  | keepalive (a elapsed : Nat)
  | keepaliveDormant (a elapsed : Nat)
  | resendTimer (a elapsed : Nat)
  | silence (a elapsed : Nat)
  | aditRecoveryTimeout (a elapsed : Nat)
  | landingDeliver (a stream : Nat)
  | aditQuietEntry (a : Nat)
  | aditEnable (p : Path) (a : Nat)
  | aditDisable (p : Path) (a : Nat)
  | restart (p : Path) (a : Nat)
  -- faults, counters, injection (13, 14)
  | scrubPass (corrected : Nat) (found : List EccLocation) (elapsed : Nat)
  | replanTimeout (t : Nat) (bucket : U32) (step : U64) (elapsed : Nat)
  | spareIn (p : Path) (q spare : Nat)
  | countRebase (p : Path) (planes : U32)
  | sumpClear (p : Path)
  | injArm (p : Path)
  | injDisarm (p : Path)
  | countersClear (p : Path)
  -- management paths (14)
  | go (v : U32)
  | mbIrqWrite (v : U32)
  | ibTimeout (elapsed : Nat)
  | ibMessage (port : PortRef) (m : IbMsg)
  | ibForwardKeyExpiry (src : U32) (tag : U16) (response : Bool) (elapsed : Nat)
  | ibKeptResponseExpiry (src : U32) (tag : U16) (elapsed : Nat)
  | i3cPrivateWrite (bytes : List Byte)
  | i3cPrivateRead
  | entdaa (addr : BitVec 7)
  | setdasa
  | rstdaa
  | getpid
  | getbcr
  | getdcr
  | getstatus
  | getmwl
  | getmrl
  | acquire (p : Path)
  | release (p : Path)
  | breakLock (p : Path)
  | lockTimeout (elapsed : Nat)
  -- tree epochs and live change (14, 15)
  | prepare (p : Path)
  | epochExchange (port : PortRef) (i : ExchangeInfo)
  | prepareChildTimeout (elapsed : Nat)
  | apply (p : Path)
  | abandon (p : Path)
  | stdAssign (p : Path)
  | drain (p : Path) (plane : Nat)
  | planeDrained (plane : Nat)
  | undrain (p : Path) (plane : Nat)
  -- context (05)
  | save (p : Path) (t : Nat)
  | ctxSaveDone (t : Nat)
  | restore (p : Path) (t : Nat) (image : List Byte)
  | restoreFlags (p : Path) (t : Nat) (image : List Byte)
  | fence (p : Path) (t : Nat)
  -- Gallery and capture (12)
  | fetchEntry (p : Path)
  | fetchRowHeader (p : Path)
  | galleryClear (p : Path)
  | capArm (p : Path)
  | capDisarm (p : Path)
  -- microcode (14, 15)
  | begin (p : Path)
  | loadData (p : Path) (bytes : List Byte)
  | seal (p : Path)
  | swap (p : Path)
  | cancel (p : Path)
  | microcodeSwapExec
  | microcodeSwapDone
  -- power, clocks, resets (15, 16)
  | enter (p : Path)
  | wake (p : Path)
  | autoDormantExpiry (elapsed : Nat)
  | dormantEntry
  | dormantWakeDone
  | fabricClockStop (plane : Option Nat) (elapsed : Nat)
  | profileReqWrite (p : Path) (v : Nat)
  | profileChangeDone
  | fclkReqWrite (p : Path) (v : U16)
  | throttleRise
  | throttleFall
  | vidAck
  | powerOnReset (nodeId : U32) (i3cAddr : BitVec 7)
  | blockResetPin
  | resetBlock (p : Path)
  | blockResetDone
  | resetPlanes (p : Path) (planes : U32)
  | resetLattice (p : Path) (port : Nat)
  | resetAdit (p : Path) (a : Nat)
  | resetTap (p : Path) (t : Nat)
  -- test access (16)
  | testModeRise
  | wsBypass
  | wsExtest (cells : List Bool)
  | wsIntest (cells : List Bool)
  | wpScan
  | wsMbist
  | wsMbistAon
  | wsLaneLoop
  | extest (cells pins : List Bool)
  | samplePreload (cells pins : List Bool)
  | extestPulse (cells pins : List Bool)
  | extestTrain (cells pins : List Bool)
  | testModeFall
  | coreDrainValid (t : Nat) (beat : List Byte)
  | fabricClockStarted (plane : Option Nat)
  deriving DecidableEq, Repr

end Sys2Proof
end

