-- ==== Sys2Proof/Decode.lean ====
section
/-! DEFINITION. The decoder of table words: the table gives no row any bits. -/

namespace Sys2Proof

/-- The command that the `nbits` bits of `w` spell. The commands of the block arrive as events and accesses, and
the table gives none of them an encoding, so no word spells one. -/
def decodeTableWord (_nbits _w : Nat) : Option Instr := none

end Sys2Proof
end

