-- ==== Sys2Proof/Config.lean ====
section
/-! DEFINITION. What is fixed at integration (R24 to R26, R427) and the free values: values the spec gives
an effect but no number for. A free value has no body, so nothing can be proved of it. -/

namespace Sys2Proof.Config

/-- The instance parameters of R24 with the constants of the part (0x1000). -/
structure Params where
  taps : Nat
  planes : Nat
  spares : Nat
  poolQuerns : Nat
  latticePorts : Nat
  aditPorts : Nat
  galleryPackage : Bool
  handover : Bool
  coreTiles : Nat
  hostPart : Nat
  stepping : Nat
  grade : Nat
  classBase : U64
  serial : U64
  bootVersion : U32
  deriving DecidableEq, Repr

namespace Params

/-- NL_LEAF_QUERNS (R24). -/
def leafQuerns (p : Params) : Nat := p.taps / 16
/-- NL_PLANE_QUERNS (R24). -/
def planeQuerns (p : Params) : Nat := if p.taps > 0 then p.planes else 0
/-- The querns that hold a position: leaf and plane querns, or the pool (R26). -/
def positions (p : Params) : Nat :=
  if p.taps > 0 then p.leafQuerns + p.planeQuerns else p.poolQuerns
/-- All querns, spares last (R26). -/
def querns (p : Params) : Nat := p.positions + p.spares
/-- Memory ports: one for each tap group, and four package ports where the Gallery is in package memory (R430). -/
def memPorts (p : Params) : Nat := p.leafQuerns + (if p.galleryPackage then 4 else 0)
/-- The ranges of R24. -/
def supported (p : Params) : Bool :=
  p.taps ≤ 128 && p.taps % 16 = 0 && (p.planes = 1 || p.planes = 2 || p.planes = 4 || p.planes = 8)
    && (if p.taps = 0 then 1 ≤ p.poolQuerns && p.poolQuerns ≤ 16 else p.poolQuerns = 0)
    && p.spares ≤ 2 && p.latticePorts ≤ 64 && p.aditPorts ≤ 8

end Params

/-- The Volxia column of R24, stepping A1, grade Standard (R313). DESIGN CHOICE (log entry 1): the instance
that `State.reset` is. -/
def volxia : Params :=
  { taps := 128, planes := 8, spares := 2, poolQuerns := 0, latticePorts := 16, aditPorts := 0
    galleryPackage := false, handover := true, coreTiles := 8
    hostPart := 1, stepping := 1, grade := 0
    classBase := 0x0111011700000000, serial := 0, bootVersion := 1 }

/-- The Aqold column of R24, stepping A0 (R313). -/
def aqold : Params :=
  { taps := 0, planes := 8, spares := 2, poolQuerns := 16, latticePorts := 64, aditPorts := 8
    galleryPackage := true, handover := false, coreTiles := 0
    hostPart := 2, stepping := 0, grade := 0
    classBase := 0x0111011700000000, serial := 0, bootVersion := 1 }

/-- The `n`-th free value (log entry 3): a result the spec leaves open, numbered by `State.freeCount`. -/
opaque freeNat : Nat → Nat

/-- The occupied indices behind a port are reported at tree setup and no object holds them (R70, R113): the
lowest of those in the span from `base` of width `2^k` at tree epoch `epoch`, as an offset from `base` (log entry 9). -/
opaque lowestBehind (epoch plane base k : Nat) : Nat

/-- Whether `index` is occupied behind a port whose span is only partly occupied (R133, log entry 9). -/
opaque occupiedBehind (epoch plane index : Nat) : Bool

/-- The supply point, in steps of 5 mV above 500 mV, that nl_vid_req asks for at a power profile (R410, R426): the spec lists none. -/
opaque vidCode (profile : Nat) : BitVec 8

/-- The base of the window of package memory port `n` in the package address space, given by the host (R430). -/
opaque packageWindow (n : Nat) : Nat

/-- The manufacturer identifier in bits [47:33] of the I3C provisional ID (R397): the spec lists none. -/
opaque i3cMaker : BitVec 15

end Sys2Proof.Config
end

