-- ==== Sys2Proof/Machine/State.lean ====
section
/-! DEFINITION. The state of one Nerlyn instance as plain data, and its value right after power-on reset. -/

namespace Sys2Proof.Machine

open Sys2Proof.Config (Params)

/-- A sparse register file: (key, value) pairs, keys strictly rising, no value equal to the key's reset value.
A key is `index * 256 + subindex` of an object (R380). -/
abbrev RegFile := List (Nat × Nat)

/-- Bytes of the microcode slots (R406): (address, byte), addresses strictly rising, no byte 0. Slot B begins at 2^18. -/
abbrev Memory := List (Nat × Byte)

/-- The stop of a meaning: none is a behaviour of the block, each marks a command that cannot arise. -/
inductive Fault where
  /-- Raised by every meaning whose command names a tap, quern, input, port, plane or memory port that the instance does
  not have (R24, R380). Safe: no such command can reach the instance. -/
  | absentUnit (what : String) (n : Nat)
  deriving DecidableEq, Repr

/-- Why a command has no meaning in the model. -/
inductive Refusal where
  /-- Raised only by a dispatch arm whose meaning is not written. Safe. -/
  | notModelled (mnemonic : String)
  deriving DecidableEq, Repr

/-! ### Taps -/

/-- The tap states of R162. -/
inductive TapState where
  | unbound | active | saving | parked | fenced
  deriving DecidableEq, Repr

/-- Where a descriptor stands between its post and its completion record. -/
inductive Phase where
  | queued         -- posted, not started (R110)
  | waitArrive     -- a BARRIER with ORDER_CQ or a STEP_BARRIER that waits to send its arrival (R209, R211)
  | running        -- started: reading, draining, sending, waiting for answers and results
  | settling       -- ended or delivered, DST writes outstanding (R143)
  | offering       -- tailrace record offered or waiting to be offered (R189)
  | fencing        -- done but for the order of R110 or R117
  | recording      -- completion record to be written or being written (R143)
  | replanWait     -- held for a re-run (R363)
  | awaitOriginal  -- a duplicate whose original is still open (R127)
  deriving DecidableEq, Repr

/-- A tailrace record or completion record as its 64-bit words. -/
abbrev Words := List U64

/-- The accumulator drain of a descriptor (R158, R160); tiles are counted from FIRST_TILE. -/
structure DrainState where
  wanted : Bool := false          -- tiles are still to be read
  next : Nat := 0                 -- the next tile to request
  reading : Option Nat := none    -- tile whose beats are being taken
  beats : List (List Byte) := []  -- beats of that tile, newest first
  settled : Bool := false         -- the requested tile has settled while an earlier one is read
  held : List Nat := []           -- tiles requested and not yet released
  limit : Nat := 0                -- T_DRAIN when the tile was requested (R226)
  deriving DecidableEq, Repr

/-- A descriptor that holds a queue entry of its tap (R142), with what the tap keeps of it. -/
structure Flight where
  id : Nat                                   -- names the queue entry within its tap
  desc : Desc
  phase : Phase := .queued
  attempt : Nat := 0
  retried : List Nat := []                   -- SCALED: planes at attempt 1
  run : Nat := 0
  slot : Option Nat := none
  slotWait : Bool := false
  gtcStart : U64 := 0
  planes : List Nat := []                    -- active planes of the run in force
  epochs : List (Nat × Nat) := []            -- their tree epochs when the run started
  readOut : Bool := false                    -- source reads outstanding (R152)
  preWant : List Nat := []                   -- planes whose pre-pass is to be sent when the source is there
  readDue : List Nat := []                   -- planes whose source is to be read once the retention slot holds it
  want : List Nat := []                      -- planes to be sent when the source is there
  drain : DrainState := {}
  source : List (Nat × List Byte) := []      -- source bytes read, by offset
  answers : List (Nat × Int) := []           -- EXACT pre-pass answers by plane (R94)
  anchor : Int := 0                          -- anchor in force
  limits : Nat × Nat := (0, 0)               -- T_BUCKET_SITE and T_BUCKET_ADIT when the run began (R226)
  begun : Bool := false                      -- an attempt has been sent (R437)
  scales : List (Nat × List Int) := []       -- SCALED: block scales in force by plane
  results : List Nat := []                   -- planes whose result, commit token or release has arrived
  delivered : List Nat := []                 -- planes delivered under R182, of the run in force
  rowStats : List (Nat × List Nat) := []     -- row parts by plane (R182)
  stats : List U64 := []                     -- header of the statistics area (R183); empty until it arrives
  colStats : List Nat := []
  maxexps : List (Nat × Int) := []           -- chunk MAXEXP summaries by plane (R87)
  retries : List Nat := []                   -- planes that sent RETRY in attempt 0
  aborts : List (Nat × FailInfo) := []       -- aborts by plane (R132)
  resent : List Nat := []                    -- planes re-sent under R357
  eddies : List (Nat × List Nat) := []       -- Eddy partial by plane (R135)
  chunks : List (Nat × (Nat × Nat)) := []    -- chunk boundaries that a plane root sent, by plane (R120)
  prepassDone : Bool := false
  retryRan : Bool := false
  replaned : Bool := false
  paused : Bool := false
  outRange : Bool := false
  failing : Bool := false                    -- the tap itself failed the bucket and sent its aborts
  failed : Option FailInfo := none           -- error of the record to write
  writeFail : Option FailInfo := none        -- a write of the entry failed: it ends so where it would commit (R153)
  counted : List Nat := []                   -- planes whose result counts in ACCEPTED (R212)
  tailDone : Bool := false                   -- the tail flag, if one is due, has been applied (R203)
  status : Nat := 0                          -- STATUS of the record to write
  code : Nat := 0                            -- ERROR_CODE of the record to write
  record : Words := []                       -- the completion record once formed
  deriving DecidableEq, Repr

/-- What a memory request of a tap is for. -/
inductive MemRole where
  | source (offset : Nat)  -- source bytes of a descriptor
  | dst                    -- DST, statistics area
  | retain (tile : Nat)    -- a drained tile going to its retention slot
  | record                 -- a completion record
  deriving DecidableEq, Repr

/-- A request of a tap at its memory port (R152, R430): waiting (`tag = none`) or outstanding. -/
structure MemReq where
  tag : Option Nat
  id : Nat            -- the queue entry it serves
  role : MemRole
  addr : Nat          -- of its first 64-byte line
  lines : Nat
  skip : Nat          -- bytes of the first line before the wanted range
  write : Bool
  data : List Byte    -- bytes written from `skip` on
  deriving DecidableEq, Repr

/-- A poll of R225 and what it returned. -/
structure PollMark where
  kind : Nat          -- 0 FLAG_MIRROR, 1 FLAG_CLAIM, 2 SLUICE_LINES, 3 SLUICE_DRIVE
  at_ : Nat           -- offset of a FLAG_MIRROR read, flag of a CLAIM
  size : Nat
  value : Nat
  deriving DecidableEq, Repr

/-- The poll watchdog of R225. -/
structure Watchdog where
  restarted : U64 := 0          -- GTC of the last restart
  polls : List PollMark := []   -- the last poll of each word
  last : Option PollMark := none
  lastAt : Nat := 0             -- uptime at the last poll
  fired : Bool := false
  overdue : Bool := false       -- T_WATCHDOG reached with no recent poll
  limit : Nat := 2000000        -- T_WATCHDOG at the last restart, at reset its default (R226)
  deriving DecidableEq, Repr

/-- What R163 to R171 keep of a tap whose context is saved. -/
structure CtxSave where
  gtcSaved : U64 := 0
  gtcFinal : U64 := 0
  image : Option CtxImage := none        -- the image as last written
  fencing : Bool := false
  deriving DecidableEq, Repr

/-- One tap: what R138 to R171 give it beside its objects. -/
structure Tap where
  state : TapState := .unbound
  contrib : Nat := 0
  stage : Desc := ⟨0, 0, 0, 0, 0, 0, 0, 0⟩
  busyCount : U16 := 0
  last : Nat := 0
  queue : List Flight := []
  nextId : Nat := 0
  recQ : List Nat := []                    -- queue entries whose record is to be written, in order
  slots : List Bool := [false, false]
  mirror : BitVec 4096 := 0
  arrivals : BitVec 16 := 0
  keptDrive : Option (BitVec 16) := none   -- SLUICE_DRIVE kept from SAVE until the index is restored (R169)
  dups : List (Desc × Words) := []
  holding : Bool := false
  settled : Bool := false                  -- nl_core_tile_settled has risen with no requested tile to answer (R428)
  mem : List MemReq := []
  dog : Watchdog := {}
  ctx : CtxSave := {}
  ignoreCore : Bool := false
  ctxStatus : Nat := 0
  ctxReason : Nat := 0
  deriving DecidableEq, Repr

/-! ### Querns -/

/-- What plane root M holds for the merge of a bucket: partial parts or winners by plane, with their attempt (R115, R180, R181). -/
structure MergeRec where
  bucket : U32
  step : U64
  run : Nat
  parts : List (Nat × Nat × List Nat)     -- plane, attempt, slots
  deriving DecidableEq, Repr

/-- The block scales that a plane root answered to the pre-pass of a key (R87, R94). -/
structure ScaleRec where
  bucket : U32
  step : U64
  plane : Nat
  run : Nat
  scales : List Int
  deriving DecidableEq, Repr

/-- A bucket-table entry of a quern (R215 to R219). -/
structure Entry where
  bucket : U32
  step : U64
  plane : Nat
  attempt : Nat
  run : Nat
  agree : Option Agreement := none
  agrees : List (Nat × Agreement) := []    -- agreement sets by input; 32 + input for that of a PREPASS
  limits : Nat × Nat := (0, 0)             -- T_BUCKET_SITE and T_BUCKET_ADIT when the entry opened (R226)
  counter : Nat := 0                       -- arrival counter (R215)
  nsegs : Nat := 1
  s0 : Nat := 0
  bitmap : List Nat := []                  -- contributor bitmap: inputs whose segment s0 is accepted
  buf : List (Nat × Message) := []         -- accepted segments not yet combined, by input
  got : List (Nat × Nat) := []             -- segments accepted, by input
  opened : List Nat := []                  -- inputs that sent OPEN (R218)
  ovf : Bool := false
  maxexp : Int := -32768
  outRange : Bool := false
  doomed : Bool := false                   -- SCALED: a scale limit or an addition overflow (R86)
  prepass : List (Nat × List Int) := []    -- exponents by input (R94)
  prepassDone : Bool := false
  lanes : List Lane := []                  -- plane root: combined lanes of the chunk
  scales : List Int := []                  -- plane root: block scales of the chunk
  summaries : List (Nat × StepSummary) := []
  headDone : Bool := false                 -- the headrace of the attempt has been passed upward
  chunk : Option (Nat × Nat) := none       -- the chunk block that came down (R120, R263)
  kept : List Message := []                -- messages held until the Eddy check has passed (R334)
  digests : List (Nat × List Nat) := []    -- digest by input, 16 for the output (R338, R344)
  merging : Bool := false                  -- plane root M: the chunk is sent or held back, and winners or parts are awaited
  paused : Bool := false
  deriving DecidableEq, Repr

/-- A key that the quern closed (R216): whether it was closed by RETRY, whether its passage still counts in ACCEPTED (R212), and the
agreement set under which its statistics trailer is passed (R178). -/
structure Closed where
  bucket : U32
  step : U64
  plane : Nat
  attempt : Nat
  run : Nat
  retried : Bool
  counted : Bool
  agree : Option Agreement
  chunk : Option (Nat × Nat) := none   -- the chunk block that came with it (R120, R263)
  lost : Bool := false      -- the quern that closed it is fenced: only its passage is still known, with the counts of the node (R355)
  deriving DecidableEq, Repr

/-- One quern position: its bucket table and what R16, R212, R216, R222, R277, R344 and R355 keep for it. -/
structure Quern where
  entries : List Entry := []
  closed : List Closed := []
  waiting : List (Nat × Message) := []
  notices : List (Nat × List Span) := []   -- PAUSE notices, oldest first: T_PAUSE_MAX when each came (R226), spans it marks (R222)
  accepted : RegFile := []                 -- key plane * 16 + input
  server : Option Nat := none              -- the quern that serves the position; none: fenced without a spare
  switching : Option Nat := none           -- a spare that is taking the position (R355)
  refusedInputs : List Nat := []           -- inputs whose SPAN_REPORT disagreed (R277)
  merges : List MergeRec := []             -- plane root M (R181)
  scaleRecs : List ScaleRec := []          -- plane root: pre-pass answers of open buckets
  fenceFail : Option FailInfo := none      -- the failure of the quern that left the position fenced (R357)
  deriving DecidableEq, Repr

/-! ### Ports -/

/-- A flit as its header fields and payload; SEQ is given at transmission (R257, R259). -/
structure Flit where
  seq : Nat := 0
  epoch : Nat := 0
  vc : Nat
  plane : Nat := 0
  first : Bool := true
  last : Bool := true
  payload : List Byte := []
  time : Option TimeMsg := none            -- VC 4: stamped at each transmission (R232)
  lost : Bool := false                     -- its retained codeword is uncorrectable (R354)
  deriving DecidableEq, Repr

/-- Lattice port states (R252), in the order of their codes. -/
inductive LatState where
  | disabled | absent | training | active | recovering | down | misconnected | quiet | test
  deriving DecidableEq, Repr

/-- A body of which some parts have arrived (R265). -/
structure PartHold where
  next : Nat                               -- SEG of the next part
  agree : Option Agreement
  chunk : Option (Nat × Nat)
  body : List Byte
  deriving DecidableEq, Repr

/-- What training has found on one receive lane (R247 to R249). -/
structure LaneSeen where
  signal : Bool := false
  seen : Bool := false        -- a training block has arrived in this training
  lane : Nat := 0
  node : U32 := 0
  port : Nat := 0
  inverted : Bool := false
  phase : Nat := 0
  rxReady : Bool := false
  width : Nat := 0
  rxGood : Nat := 0
  deriving DecidableEq, Repr

/-- One lattice port beside its objects (R247 to R276). DEDUCED (log entry 39). -/
structure LatPort where
  state : LatState := .absent
  enabled : Bool := true
  fresh : Bool := true                     -- FRESH of its training blocks
  phase : Nat := 0
  train : Nat := 0                         -- 1 a fast retrain, 2 a full training runs (R247)
  lanes : List LaneSeen := List.replicate 8 {}
  nextSeq : Nat := 0
  expSeq : Nat := 0
  rxWaiting : Bool := false
  retry : List Flit := []                  -- unacknowledged, oldest first
  unsent : Nat := 0                        -- how many of the newest retained flits are still to be replayed
  noProgress : Nat := 0                    -- consecutive replays without ACK progress
  replayAt : Option Nat := none            -- SEQ from which the last replay began, while no ACK has passed it
  recoverGoal : Option Nat := none         -- SEQ that an ACK must reach to end RECOVERING
  recoverLimit : Nat := 0                  -- T_LINK_RECOVERY when RECOVERING began (R226)
  txq : List Flit := []                    -- flits waiting, in stream order
  used : RegFile := []                     -- credits used, by pool (vc * 8 + plane)
  freed : RegFile := []                    -- flits freed since training, by pool
  lastFreed : RegFile := []                -- FREED values last received, by pool
  partMsg : List (Nat × List Byte) := []   -- partly received messages, by vc * 8 + plane
  parts : List (Nat × PartHold) := []      -- bodies received in parts (R265), by vc * 8 + plane
  heldFlits : List Flit := []              -- flits that wait in their pool: of a prepared epoch (R276) or of a stopped plane (R407)
  lcfDue : Bool := false
  lcfNak : Bool := false
  lcfDirty : Bool := false
  closedAt : RegFile := []                 -- planes whose VC 0 to 2 are closed after DOWN (R255): plane, epoch then
  stepGoals : List (Nat × Nat) := []       -- per plane: SEQ of a STEP_ARRIVE sent and not yet covered (R271)
  credits : RegFile := []                  -- CREDITS by plane as last sampled for a STEP_BARRIER (R271)
  heard : Bool := true                     -- a flit has come in the last 100 µs (R415)
  txIdle : Bool := false                   -- the transmit direction is in electrical idle (R415)
  deriving DecidableEq, Repr

/-- Adit port states (R287), in the order of their codes. -/
inductive AditState where
  | disabled | absent | hello | active | recovering | down | misconnected | quiet
  deriving DecidableEq, Repr

/-- A DATA frame in the retention ring or the landing (R290, R293). DEDUCED (log entry 39). -/
structure AditFrame where
  seq : Nat
  epoch : Nat
  service : Bool
  plane : Nat
  packed : Bool
  flits : List Flit
  stamp : Nat := 0             -- arrival time kept with the frame (R303)
  resentAt : Option U64 := none
  sentAt : U64 := 0
  lost : Bool := false         -- its codeword in the ring is uncorrectable (R354)
  deriving DecidableEq, Repr

/-- One adit port beside its objects (R287 to R303). -/
structure AditPort where
  state : AditState := .absent
  enabled : Bool := true
  linkUp : Bool := false
  session : U64 := 0
  peerSession : Option U64 := none
  peerSeen : Bool := false
  peerFlitsMax : Nat := 32
  packTx : Bool := false
  packRx : Bool := false
  nextSeq : Nat := 0
  ack : Nat := 0
  landing : List AditFrame := []
  dropMark : Option Nat := none            -- one beyond the highest landing-dropped SEQ
  ring : List AditFrame := []              -- unacknowledged, oldest first
  resend : List Nat := []                  -- SEQs to resend, in order
  peerFree : Nat := 2048
  rtts : List (U64 × Nat) := []            -- DATA-to-ACK times of the last 64 ms, with the GTC of each
  lastPlane : Nat := 7                     -- plane of the last plane-stream frame (R286)
  recoverGoal : Option Nat := none
  recoverLimit : Nat := 0
  txq : List Flit := []                    -- flits waiting for a frame, in stream order
  closedFrames : List Nat := []            -- streams (plane, 8 = service) whose frame has closed
  ctrlDue : Bool := false
  dirty : Bool := false
  partMsg : List (Nat × List Byte) := []
  parts : List (Nat × PartHold) := []
  closedAt : RegFile := []
  stepGoals : List (Nat × Nat) := []
  credits : RegFile := []                  -- CREDITS by plane as last sampled for a STEP_BARRIER (R296)
  peerPack : Bool := false                 -- PACK_OK of the peer's last HELLO (R288)
  waitMsgs : List (Nat × Desc × Message) := []   -- messages of VC 0 to 2, with their tree epoch, that wait for a session, which says how they travel (R298)
  deriving DecidableEq, Repr

/-! ### Instance units -/

/-- One sump record as its four words (R368); word 0 is the GTC. -/
structure SumpRec where
  w0 : U64
  w1 : U64
  w2 : U64
  w3 : U64
  deriving DecidableEq, Repr

/-- The sump (R367 to R371). -/
structure Sump where
  recs : List SumpRec := []      -- oldest first, at most 1024
  nextSeq : U32 := 0
  first : Option SumpRec := none
  lastRec : List (Nat × SumpRec × Option SumpRec) := []  -- the record written last of each code, with its continuation (R369)
  queued : List (SumpRec × Option SumpRec) := []         -- records waiting for a microcode swap to end (R425)
  deriving DecidableEq, Repr

/-- The GTC states (R236), in the order of their codes. -/
inductive GtcState where
  | free | acquire | locked | holdover | lost
  deriving DecidableEq, Repr

/-- A sample of R234: offset and mean delay in ps, round trip in ps, with the parent's BOUND. -/
structure Sample where
  theta : Int
  mean : Int
  rt : Int
  bound : Nat
  deriving DecidableEq, Repr

/-- The GTC and its servo (R228 to R238). -/
structure Gtc where
  count : U64 := 0
  frac : U32 := 0
  sub : Nat := 0                 -- ns within the tick that an interpolated read has shown (R228)
  state : GtcState := .free
  integ : Int := 0
  rate : Int := 0                -- parts per 10^12
  exchanges : Nat := 0           -- exchanges in the current window
  samples : List Sample := []
  outstanding : List U32 := []   -- SEQs of the requests without a response
  nextReq : U32 := 0
  goodWindows : Nat := 0
  badWindows : Nat := 0
  holdNs : Nat := 0              -- time in HOLDOVER
  parentBound : Nat := 0         -- BOUND of the parent in the last sample used
  parent : Nat := 0xFFFF         -- TIME_PARENT in effect (R244)
  deriving DecidableEq, Repr

/-- The launch states (R241). -/
inductive LaunchState where
  | idle | armed | fired | aborted
  deriving DecidableEq, Repr

/-- One Gallery entry (R340, R341). -/
structure GalEntry where
  bucket : Nat
  sel : Nat                      -- contributor index of a DIGEST, 0xFFFFFF otherwise
  plane : Nat
  words : Words
  inputs : List Nat
  deriving DecidableEq, Repr

/-- One Gallery row (R339, R342). -/
structure GalRow where
  step : U64
  entries : List GalEntry
  stepEddy : Nat
  deriving DecidableEq, Repr

/-- What an instance without taps collects of a bucket on a plane until its last quern has closed it (R337, R341): input and output
digests by quern, the result digest and STATS_W0 of a plane root, the marks of word 0. -/
structure GalCollect where
  bucket : U32
  step : U64
  plane : Nat
  querns : List (Nat × List (Nat × List Nat))
  root : Nat := 0                -- ROLE so far
  out : List Nat := [0, 0, 0, 0]
  statsW0 : Nat := 0
  outRange : Bool := false
  deriving DecidableEq, Repr

/-- The Gallery, its readback and capture (R337 to R345). -/
structure Gallery where
  rows : List GalRow := []       -- in order of their first entry, oldest first
  capture : List (Nat × List Nat) := []   -- key (quern * 8 + plane) * 32 + port: four digest words
  capRuns : List (Nat × Nat) := []        -- key quern * 8 + plane: 2 * run + attempt of what is captured, the attempt in EXACT only
  recorded : List (Nat × Nat × List Nat) := []  -- plane operations recorded: bucket, step, taps with a record
  own : List (Nat × Nat × Nat × List (Nat × List Nat)) := []  -- leaf output digests not yet recorded: bucket, step, run, words by quern * 8 + plane (R338)
  collect : List GalCollect := []
  deriving DecidableEq, Repr

/-- A kept in-band response (R395). -/
structure KeptRsp where
  src : U32
  tag : U16
  rsp : List Byte
  deriving DecidableEq, Repr

/-- The mailbox, in-band and I3C paths (R391 to R398). -/
structure Paths where
  mbBusy : Bool := false
  mbDone : Bool := false
  mbIrq : Bool := false
  mbIrqEn : Bool := false
  mbStatus : Nat := 0
  mbReq : List Byte := List.replicate 320 0
  mbRsp : List Byte := List.replicate 320 0
  mbTag : Option U16 := none               -- TAG of a remote request under way
  fwd : List (U32 × U16 × Bool) := []      -- the forward table: SRC_NODE, TAG, RESPONSE, oldest first
  kept : List KeptRsp := []                -- oldest first
  i3cRsp : Option (List Byte) := none      -- a response not yet read
  deriving DecidableEq, Repr

/-- The write lock (R389, R390). -/
structure Lock where
  holder : Option Path := none
  deriving DecidableEq, Repr

/-- POWER_STATE (R413), in the order of its codes. -/
inductive PowerState where
  | running | entering | dormant | waking
  deriving DecidableEq, Repr

/-- Clocks and power (R408 to R414, R429). DESIGN CHOICE (log entry 2). -/
structure Power where
  common : Bool := false                   -- the common fabric domain runs
  planes : BitVec 8 := 0                   -- plane domains that run
  starting : List (Option Nat) := []       -- domains being started: none is the common domain
  state : PowerState := .running
  throttle : Bool := false
  vidReq : BitVec 8 := 0
  vidAck : Bool := false
  changing : Option Nat := none            -- the profile a change is going to
  rising : Bool := false                   -- that change raises the supply and waits for nl_vid_ack
  ceiling : Nat := 1100                    -- clock ceiling in force, MHz (R410)
  mhz : Nat := 1000                        -- fabric frequency in force
  deriving DecidableEq, Repr

/-- Error injection (R405). -/
structure Inject where
  armed : Bool := false
  kind : Nat := 0
  objKind : Nat := 0
  unit : Nat := 0
  left : Nat := 0
  deriving DecidableEq, Repr

/-- Test access (R433 to R436). DESIGN CHOICE (log entry 2). -/
structure TestAccess where
  mode : Bool := false                     -- nl_test_mode
  wir : BitVec 3 := 0
  cells : List Bool := []                  -- boundary update stage
  captured : List Bool := []               -- boundary capture stage
  wrapCells : List Bool := []
  wrapCaptured : List Bool := []           -- wrapper capture stage
  result : Option Nat := none              -- wrapper data register
  needPor : Bool := false                  -- WS_MBIST_AON ran: a power-on reset must follow
  deriving DecidableEq, Repr

/-- Tree setup beside its objects: what PREPARE and the exchange of R314 hold. DESIGN CHOICE (log entry 41). -/
structure Setup where
  preparedPlanes : BitVec 8 := 0
  heard : List (PortRef × ExchangeInfo) := []
  objectLost : List (Nat × Nat) := []      -- configuration objects lost (R354)
  deriving DecidableEq, Repr

/-- What the block drives to its surroundings, in the order it drove it (log entry 6). -/
inductive Output where
  | windowData (t : Nat) (v : Nat)
  | memRequest (port tag addr lines : Nat) (write : Bool) (data : List Byte) (mask : List Bool)
  | packageRequest (port tag addr bytes : Nat) (write : Bool)
  | imageWrite (t : Nat) (addr : U64) (bytes : List Byte)
  | drainReq (t tile : Nat)
  | tileRelease (t tile : Nat)
  | handover (w : Words)
  | flit (port : Nat) (bytes : List Byte)
  | trainingBurst (port ms : Nat)
  | refreshBurst (port : Nat)
  | trainingBlock (port lane : Nat) (bytes : List Byte)
  | frame (a : Nat) (bytes : List Byte)
  | mailboxData (v : U32)
  | odResponse (p : Path) (status : Nat) (data : List Byte)
  | epochExchange (port : PortRef) (i : ExchangeInfo)
  | i3cData (bytes : List Byte)
  | i3cNack
  | vidReq (v : BitVec 8)
  | testData (l : List Bool)
  | testWord (v : Nat)
  deriving DecidableEq, Repr

/-- What an access waits for: a clock domain (none: the common one), a wake, the end of a block reset or of a microcode
swap (R408, R414, R416, R425). -/
inductive HoldFor where
  | clock (d : Option Nat)
  | wake
  | engine
  deriving DecidableEq, Repr

/-- The state of one instance (INVENTORY.md, State). -/
structure State where
  params : Sys2Proof.Config.Params
  od : RegFile := []
  inForce : RegFile := []                  -- 0x2201 to 0x2251 in force (R399), keys as in `od`
  taps : List Tap
  querns : List Quern
  fencedQuerns : List Nat := []
  flags : BitVec 4096 := 0
  blanking : BitVec 16 := 0
  lattice : List LatPort
  adits : List AditPort
  sump : Sump := {}
  gtc : Gtc := {}
  launch : LaunchState := .idle
  gallery : Gallery := {}
  paths : Paths := {}
  lock : Lock := {}
  power : Power := {}
  inject : Inject := {}
  testAcc : TestAccess := {}
  setup : Setup := {}
  ucode : Memory := []
  swapping : Bool := false
  swapDue : Bool := false                  -- the step boundary of a pending SWAP has passed (R425)
  resetting : Bool := false
  handoverQ : List (Nat × Nat) := []       -- records waiting for the update unit: tap, queue entry
  handoverSeq : U16 := 0
  offerDue : Bool := false                 -- the record at the head of handoverQ is still to be offered (log entry 77)
  nodeStrap : U32 := 0
  i3cStrap : BitVec 7 := 0x08
  held : List (HoldFor × Instr) := []      -- accesses that wait, in order
  onDie : List Instr := []                 -- messages in flight between units of the die
  outs : List Output := []
  freeCount : Nat := 0
  uptime : Nat := 0                        -- ns of the always-on clock since power-on, which no servo moves (log entry 74)
  pending : List Instr := []
  deriving DecidableEq, Repr

/-- The instance with parameters `p` right after power-on reset, with the straps of R427 as `nodeId` and `i3cAddr`:
every object at its listed default, taps UNBOUND, ports enabled and ABSENT (their STATE default, log entry 7), querns serving their own positions (R417).
DESIGN CHOICE (log entry 2). -/
def State.powerOn (p : Params) (nodeId : U32) (i3cAddr : BitVec 7) : State :=
  { params := p
    taps := List.replicate p.taps {}
    querns := (List.range p.positions).map fun q => { server := some q }
    lattice := List.replicate p.latticePorts {}
    adits := List.replicate p.aditPorts {}
    nodeStrap := nodeId
    i3cStrap := i3cAddr }

/-- The state right after reset. DESIGN CHOICE: a Volxia (log entry 1) with the straps 0 and 0x08 (log entry 2). -/
def State.reset : State := State.powerOn Config.volxia 0 0x08

end Sys2Proof.Machine
end

