-- ==== Sys2Proof/Machine/Bits.lean ====
section
/-! DEFINITION. Bit fields, byte order, sparse register files, the CRC-64 of R258, the Eddy of R325 and the
keyed mixer of R62. -/

namespace Sys2Proof.Machine

/-- Bits [hi:lo] of `n` (R2). -/
def bitsOf (n hi lo : Nat) : Nat := (n >>> lo) % 2 ^ (hi + 1 - lo)

/-- Bit `i` of `n`. -/
def bitOf (n i : Nat) : Bool := (n >>> i) % 2 == 1

/-- A field of `w` bits of a 64-bit word (R2). -/
def fieldOf (w : U64) (hi lo : Nat) : Nat := bitsOf w.toNat hi lo

/-- 1 for true, 0 for false. -/
def b2n (b : Bool) : Nat := if b then 1 else 0

/-- A two's-complement field of `n` bits as an integer. -/
def signedOf (n w : Nat) : Int := if n < 2 ^ (w - 1) then (n : Int) else (n : Int) - (2 ^ w : Nat)

/-- An integer as a two's-complement pattern of `w` bits. -/
def patternOf (i : Int) (w : Nat) : Nat := (i % (2 ^ w : Nat)).toNat

/-- Little-endian value of a byte list (R1). -/
def bytesToNat : List Byte → Nat
  | [] => 0
  | b :: bs => b.toNat + 256 * bytesToNat bs

/-- The `len` bytes of `n`, low byte first (R1). -/
def natToBytes (n : Nat) : Nat → List Byte
  | 0 => []
  | len + 1 => BitVec.ofNat 8 n :: natToBytes (n / 256) len

/-- The 64-bit word at byte offset `o`. -/
def wordAt (bs : List Byte) (o : Nat) : U64 := u64 (bytesToNat ((bs.drop o).take 8))

/-- The bytes of 64-bit words, in order. -/
def wordsToBytes (ws : List U64) : List Byte := ws.flatMap fun w => natToBytes w.toNat 8

/-- `n` rounded up to a multiple of `k`. -/
def roundUp (n k : Nat) : Nat := (n + (k - 1)) / k * k

/-- The quotient rounded up. -/
def ceilDiv (n k : Nat) : Nat := (n + (k - 1)) / k

/-! ### Sparse register files -/

/-- The value under `key`, or `d` where none is listed. -/
def RegFile.get (d : Nat) (key : Nat) : RegFile → Nat
  | [] => d
  | (k, v) :: r => if k = key then v else RegFile.get d key r

/-- The register file with `key` listed as `v`, in key order. -/
def RegFile.put (key v : Nat) : RegFile → RegFile
  | [] => [(key, v)]
  | (k, w) :: r =>
    if key < k then (key, v) :: (k, w) :: r
    else if key = k then (key, v) :: r
    else (k, w) :: RegFile.put key v r

/-- The register file without `key`. -/
def RegFile.del (key : Nat) (r : RegFile) : RegFile := r.filter fun p => p.1 != key

/-- Write `v` under `key`, whose reset value is `d`: a value equal to `d` is not listed. -/
def RegFile.set (d key v : Nat) (r : RegFile) : RegFile := if v = d then r.del key else r.put key v

/-- Every key is above `n` and they rise. -/
def RegFile.above (n : Nat) : RegFile → Bool
  | [] => true
  | (k, _) :: r => n < k && RegFile.above k r

/-- Keys strictly rise. -/
def RegFile.sorted : RegFile → Bool
  | [] => true
  | (k, _) :: r => RegFile.above k r

/-! ### Microcode memory -/

/-- The byte at `a`; an unlisted byte reads 0 (log entry 2). -/
def Memory.read (a : Nat) : Memory → Byte
  | [] => 0
  | (k, v) :: r => if k = a then v else Memory.read a r

/-- The memory with byte `v` at `a`; a byte 0 is not listed. -/
def Memory.write (a : Nat) (v : Byte) : Memory → Memory
  | [] => if v = 0 then [] else [(a, v)]
  | (k, w) :: r =>
    if a < k then (if v = 0 then (k, w) :: r else (a, v) :: (k, w) :: r)
    else if a = k then (if v = 0 then r else (a, v) :: r)
    else (k, w) :: Memory.write a v r

/-- Bytes written from `a` upward. -/
def Memory.writeBytes (a : Nat) : List Byte → Memory → Memory
  | [], m => m
  | b :: bs, m => Memory.writeBytes (a + 1) bs (Memory.write a b m)

/-- The bytes outside [lo, hi). -/
def Memory.clear (lo hi : Nat) (m : Memory) : Memory := m.filter fun c => !(lo ≤ c.1 && c.1 < hi)

/-- `n` bytes from `a`. -/
def Memory.readBytes (a : Nat) (m : Memory) : Nat → List Byte
  | 0 => []
  | n + 1 => Memory.read a m :: Memory.readBytes (a + 1) m n

/-- Every address is at least `n`, they rise, and no byte is 0. -/
def Memory.wfFrom (n : Nat) : Memory → Bool
  | [] => true
  | (k, v) :: r => n ≤ k && v != 0 && Memory.wfFrom (k + 1) r

/-- The canonical form: addresses strictly rise and no listed byte is what an unlisted one reads as. -/
def Memory.wf (m : Memory) : Bool := Memory.wfFrom 0 m

/-! ### Lists keyed by a number -/

/-- The value under `k` of an association list. -/
def assocGet {α : Type} (k : Nat) : List (Nat × α) → Option α
  | [] => none
  | (j, v) :: r => if j = k then some v else assocGet k r

/-- The association list with `v` under `k`. -/
def assocPut {α : Type} (k : Nat) (v : α) : List (Nat × α) → List (Nat × α)
  | [] => [(k, v)]
  | (j, w) :: r => if j = k then (k, v) :: r else (j, w) :: assocPut k v r

/-- The number inserted into a rising list without repeats. -/
def insertNat (n : Nat) : List Nat → List Nat
  | [] => [n]
  | m :: r => if n < m then n :: m :: r else if n = m then m :: r else m :: insertNat n r

/-! ### CRC-64 of R258 -/

/-- One bit step of the CRC register. -/
def crcStep (c : Nat) : Nat :=
  if c >>> 63 = 1 then ((c <<< 1) % 2 ^ 64) ^^^ 0x42F0E1EBA9EA3693 else c <<< 1

/-- One byte into the CRC register, most significant bit first. -/
def crcByte (c : Nat) (b : Byte) : Nat :=
  let x := c ^^^ (b.toNat <<< 56)
  crcStep (crcStep (crcStep (crcStep (crcStep (crcStep (crcStep (crcStep x)))))))

/-- CRC-64 with the ECMA-182 polynomial, initial value 0, no reflection, no final inversion. -/
def crc64 (bs : List Byte) : U64 := u64 (bs.foldl crcByte 0)

/-! ### The Eddy (R325 to R328) -/

/-- The prime 2^61 - 1. -/
def eddyP : Nat := 0x1FFFFFFFFFFFFFFF

/-- The keys of Eddy version 1. -/
def eddyKeys : List Nat :=
  [0x1A3C5E7F9B2D4C61, 0x0E91D7A436F82B5D, 0x17C48B02E95FA3D9, 0x05B6F3E81D4A9C27]

/-- `k ^ e mod p` by squaring, over `fuel` bits of `e`. -/
def powMod (p k : Nat) : Nat → Nat → Nat
  | 0, _ => 1
  | fuel + 1, e =>
    let h := powMod p (k * k % p) fuel (e / 2)
    if e % 2 = 1 then h * k % p else h

/-- The digest word of `vs` at positions `first`, `first + 1`, ... under the key `k` with the weight `w`. -/
def eddyFrom (k : Nat) : Nat → List Nat → Nat
  | _, [] => 0
  | w, v :: vs => (v % eddyP * w + eddyFrom k (w * k % eddyP) vs) % eddyP

/-- One word of the digest of the values `vs` at positions from `first`. -/
def eddyWord (k first : Nat) (vs : List Nat) : Nat :=
  eddyFrom k (powMod eddyP k 64 (first + 1)) vs

/-- The digest of the values `vs` at positions from `first`: four words (R325). -/
def eddy (first : Nat) (vs : List Nat) : List Nat := eddyKeys.map fun k => eddyWord k first vs

/-- The empty digest (R327). -/
def eddyZero : List Nat := [0, 0, 0, 0]

/-- Word-by-word sum modulo p (R328). -/
def eddyAdd (a b : List Nat) : List Nat := (a.zip b).map fun x => (x.1 + x.2) % eddyP

/-- The value of a sinter integer in a check digest (R326). -/
def eddyInt (i : Int) : Nat := (i % (eddyP : Int)).toNat

/-! ### The keyed mixer (R60 to R62) -/

/-- The constants W of R62. -/
def mixW : List U64 :=
  [0x5A17C3E89D24B6F1, 0xE40B7A9316CD582F, 0x27D9F05EC83A4B61,
   0xB86E143FA7D209C5, 0x734CAE815F19E2B7, 0x0C95D27AE3B64F18]

/-- One round of R62 on (x, y), with the constant and the key word of the round. -/
def mixRound (c2 : U64) (xy : U64 × U64) (wk : U64 × U64) : U64 × U64 :=
  let x := xy.1 ^^^ (c2 + wk.1)
  let x := x * 0xC2B74E19A36D5F8B
  let x := x ^^^ (x >>> 29)
  let y := xy.2 ^^^ x
  let y := y * 0x8F3A61D72E95B0C5
  let y := y ^^^ (y >>> 32)
  let x := x ^^^ y
  (x + wk.2, y)

/-- The mixer output for the seed pair (k0, k1) and the counter (c0, c1, c2) (R62). -/
def nlMix (k0 k1 c0 c1 c2 : U64) : Nat :=
  let ks := [k0, k1, k0, k1, k0, k1]
  let xy := (mixW.zip ks).foldl (mixRound c2) (c0 ^^^ k0, c1 ^^^ k1)
  ((xy.1 ^^^ xy.2) >>> 32).toNat

/-- A seed pair with the STEP and BUCKET that key a bucket's random bits (R60). -/
structure MixKey where
  k0 : U64
  k1 : U64
  step : U64
  bucket : U32
  deriving DecidableEq, Repr

/-- The mixer value for an element (R60, R61). -/
def mixAt (key : MixKey) (purpose node aux element : Nat) : Nat :=
  nlMix key.k0 key.k1 key.step (u64 (key.bucket.toNat * 2 ^ 32 + element % 2 ^ 32))
    (u64 (node * 2 ^ 40 + purpose * 2 ^ 32 + aux))

end Sys2Proof.Machine
end

