-- ==== Sys2Proof/Machine/Numeric.lean ====
section
/-! DEFINITION. Number formats, reading, quantisation, rounding and conversion (R29 to R59, R78 to R83). -/

namespace Sys2Proof.Machine

/-- A finite value `(-1)^neg * m * 2^e`, exactly. -/
structure Dy where
  neg : Bool
  m : Nat
  e : Int
  deriving DecidableEq, Repr

/-- An element as R37 and R38 read it. -/
inductive Val where
  | fin (d : Dy)
  | pinf
  | ninf
  | nan
  deriving DecidableEq, Repr

/-- A floating-point or fixed element type (table under R31). -/
structure FloatTy where
  eb : Nat        -- exponent bits
  mb : Nat        -- fraction bits
  bias : Nat
  emin : Int
  emax : Int
  hasInf : Bool
  nanTop : Bool   -- E4M3: the top exponent is finite but for all-ones
  int8 : Bool     -- MXINT8: fixed quantum 2^-6
  deriving DecidableEq, Repr

def tyFp32 : FloatTy := ⟨8, 23, 127, -126, 127, true, false, false⟩
def tyBf16 : FloatTy := ⟨8, 7, 127, -126, 127, true, false, false⟩
def tyFp16 : FloatTy := ⟨5, 10, 15, -14, 15, true, false, false⟩
def tyFp64 : FloatTy := ⟨11, 52, 1023, -1022, 1023, true, false, false⟩
def tyE4m3 : FloatTy := ⟨4, 3, 7, -6, 8, false, true, false⟩
def tyE5m2 : FloatTy := ⟨5, 2, 15, -14, 15, true, false, false⟩
def tyE2m3 : FloatTy := ⟨2, 3, 1, 0, 2, false, false, false⟩
def tyE3m2 : FloatTy := ⟨3, 2, 3, -2, 4, false, false, false⟩
def tyE2m1 : FloatTy := ⟨2, 1, 1, 0, 2, false, false, false⟩
def tyInt8 : FloatTy := ⟨0, 0, 0, 0, 0, false, false, true⟩

/-- The element type of a format code that is a floating-point or MX type (R29). -/
def fmtTy : Nat → FloatTy
  | 0 => tyFp32 | 1 => tyBf16 | 2 => tyFp16 | 3 => tyE4m3 | 4 => tyE5m2
  | 5 => tyE4m3 | 6 => tyE5m2 | 7 => tyE2m3 | 8 => tyE3m2 | 9 => tyE2m1 | 10 => tyInt8
  | _ => tyFp64

/-- The MX codes (R29). -/
def isMx (f : Nat) : Bool := 5 ≤ f && f ≤ 10
/-- The sinter codes. -/
def isSinter (f : Nat) : Bool := f == 13 || f == 14

/-- Bits of one element in memory (R29, R33). -/
def fmtBits : Nat → Nat
  | 0 => 32 | 1 => 16 | 2 => 16 | 3 => 8 | 4 => 8 | 5 => 8 | 6 => 8 | 7 => 6 | 8 => 6 | 9 => 4
  | 10 => 8 | 11 => 32 | 12 => 32 | 13 => 64 | 14 => 128 | _ => 64

/-- Bytes of `n` elements of format `f` (R122): MX regions with their scale array (R33). -/
def fmtSize (f n : Nat) : Nat :=
  if isMx f then roundUp (ceilDiv n 32 * 4 * fmtBits f) 64 + ceilDiv n 32 else n * (fmtBits f / 8)

/-- Alignment of an address of format `f` (R122). -/
def fmtAlign (f : Nat) : Nat := if isMx f then 64 else fmtBits f / 8

/-- e(x) of a nonzero value (R39): floor of log2 of its magnitude. -/
def Dy.exp (d : Dy) : Int := d.e + (Nat.log2 d.m : Int)

/-- Whether the magnitude of the value is at least 2^a. -/
def Dy.atLeast (d : Dy) (a : Int) : Bool := d.m != 0 && a ≤ d.exp

/-- The three roundings of R54; SR carries its mixer value (R47). -/
inductive Rnd where
  | rne
  | sr (r : Nat)
  | rz
  deriving DecidableEq, Repr

/-- The top 32 bits of the discarded part, `sh` bits wide (R47). -/
def srTop (rem sh : Nat) : Nat := if 32 ≤ sh then rem >>> (sh - 32) else rem <<< (32 - sh)

/-- `m / 2^sh` rounded to an integer (R46, R47, R55); a shift of 0 or below is exact. -/
def roundShift (rnd : Rnd) (m : Nat) (sh : Int) : Nat :=
  match sh with
  | .negSucc k => m <<< (k + 1)
  | .ofNat 0 => m
  | .ofNat (k + 1) =>
    let n := k + 1
    let q := m >>> n
    let rem := m % 2 ^ n
    match rnd with
    | .rz => q
    | .sr r => if 2 ^ 32 ≤ srTop rem n + r then q + 1 else q
    | .rne => if 2 ^ k < rem || (rem == 2 ^ k && q % 2 == 1) then q + 1 else q

/-! ### Reading (R37, R38) -/

/-- A float pattern of type `t` as a value. -/
def decodeFloat (t : FloatTy) (n : Nat) : Val :=
  if t.int8 then
    let i := signedOf (n % 256) 8
    .fin ⟨i < 0, i.natAbs, -6⟩
  else
    let frac := n % 2 ^ t.mb
    let ex := (n >>> t.mb) % 2 ^ t.eb
    let neg := bitOf n (t.eb + t.mb)
    if t.hasInf && ex == 2 ^ t.eb - 1 then
      if frac != 0 then .nan else if neg then .ninf else .pinf
    else if t.nanTop && ex == 2 ^ t.eb - 1 && frac == 2 ^ t.mb - 1 then .nan
    else if ex == 0 then .fin ⟨neg, frac, t.emin - (t.mb : Int)⟩
    else .fin ⟨neg, frac + 2 ^ t.mb, (ex : Int) - (t.bias : Int) - (t.mb : Int)⟩

/-- The value scaled by 2^x. -/
def Val.scale (v : Val) (x : Int) : Val :=
  match v with
  | .fin d => .fin { d with e := d.e + x }
  | v => v

/-- The grid bits G of a sinter lane kind (R40); format 13 is SINTER64, 14 is SINTER128. -/
def gridBits (wide : Bool) : Nat := if wide then 103 else 39

/-- A sinter pattern read against the anchor `a` (R37, R44). -/
def decodeSinter (wide : Bool) (a : Int) (n : Nat) : Val :=
  let w := if wide then 128 else 64
  if n == 2 ^ (w - 1) then .nan
  else if n == 2 ^ (w - 1) + 1 then .pinf
  else if n == 2 ^ (w - 1) + 2 then .ninf
  else
    let i := signedOf n w
    .fin ⟨i < 0, i.natAbs, a - (gridBits wide : Int)⟩

/-- An input element of format `f` with pattern `n`, its block's scale byte, read against `aIn` (R37, R38). -/
def readVal (f : Nat) (aIn : Int) (scale n : Nat) : Val :=
  if isMx f then
    if scale == 255 then .nan else (decodeFloat (fmtTy f) n).scale ((scale : Int) - 127)
  else if f == 11 then
    let i := signedOf n 32
    .fin ⟨i < 0, i.natAbs, 0⟩
  else if f == 12 then .fin ⟨false, n, 0⟩
  else if isSinter f then decodeSinter (f == 14) aIn n
  else decodeFloat (fmtTy f) n

/-- The sideband bit a value sets (R50). -/
def Val.side : Val → Sideband
  | .fin _ => {}
  | .pinf => { pinf := true }
  | .ninf => { ninf := true }
  | .nan => { nan := true }

/-- The finite part of a value: a non-finite one enters as +0 (R46, R80). -/
def Val.finite : Val → Dy
  | .fin d => d
  | _ => ⟨false, 0, 0⟩

/-- OR of two sidebands (R50). -/
def sideOr (a b : Sideband) : Sideband :=
  { nan := a.nan || b.nan, pinf := a.pinf || b.pinf, ninf := a.ninf || b.ninf }

/-- Whether any sideband bit is set. -/
def sideAny (a : Sideband) : Bool := a.nan || a.pinf || a.ninf

/-- The carried form of an exponent (R39): none as -32768, otherwise clamped. -/
def carriedExp : Option Int → Int
  | none => -32768
  | some e => if e < -32767 then -32767 else if 32767 < e then 32767 else e

/-- The largest exponent of finite nonzero values, carried form; -32768 where there is none. -/
def maxExpOf (vs : List Val) : Int :=
  vs.foldl (fun acc v => match v with
    | .fin d => if d.m == 0 then acc else max acc (carriedExp (some d.exp))
    | _ => acc) (-32768)

/-- Whether `x < 2^a` fails for a finite contribution (R41). -/
def isOvershot (a : Int) (v : Val) : Bool :=
  match v with
  | .fin d => d.atLeast a
  | _ => false

/-- Quantisation of a contribution to the grid of anchor `a` (R46, R47). -/
def quantise (wide : Bool) (a : Int) (rnd : Rnd) (v : Val) : Int :=
  let d := v.finite
  let g := gridBits wide
  if d.m == 0 || d.atLeast a then 0
  else
    let q := roundShift rnd d.m (a - (g : Int) - d.e)
    let q := if q == 2 ^ g then q - 1 else q
    if d.neg then -(q : Int) else (q : Int)

/-! ### Rounding to a type (R55, R56) -/

/-- The exponent of the quantum at the value (R55). -/
def quantumExp (t : FloatTy) (d : Dy) : Int :=
  if t.int8 then -6 else max d.exp t.emin - (t.mb : Int)

/-- Largest finite magnitude of the type as an integer multiple of 2^`largestExp`. -/
def largestM (t : FloatTy) : Nat :=
  if t.int8 then 127 else if t.nanTop then 2 ^ (t.mb + 1) - 2 else 2 ^ (t.mb + 1) - 1

/-- The exponent of `largestM`. -/
def largestE (t : FloatTy) : Int := if t.int8 then -6 else t.emax - (t.mb : Int)

/-- The magnitude rounded to the type's grid: multiple and exponent of the quantum. -/
def roundMag (t : FloatTy) (rnd : Rnd) (d : Dy) : Nat × Int :=
  if d.m == 0 then (0, 0)
  else
    let q := quantumExp t d
    (roundShift rnd d.m (q - d.e), q)

/-- `a * 2^x < b * 2^y`. -/
def magLt (a : Nat) (x : Int) (b : Nat) (y : Int) : Bool :=
  if x ≤ y then a < b <<< (y - x).toNat else a <<< (x - y).toNat < b

/-- Whether a rounded magnitude is above the largest finite value (R56, R86). -/
def aboveLargest (t : FloatTy) (n : Nat) (q : Int) : Bool := magLt (largestM t) (largestE t) n q

/-- The pattern of `(-1)^neg * n * 2^q`, a value of the type. -/
def encodeMag (t : FloatTy) (neg : Bool) (n : Nat) (q : Int) : Nat :=
  if t.int8 then
    let i : Int := if neg then -(n : Int) else (n : Int)
    patternOf i 8
  else
    let sign := b2n neg * 2 ^ (t.eb + t.mb)
    if n < 2 ^ t.mb then sign + n
    else
      let (n, q) := if n == 2 ^ (t.mb + 1) then (n / 2, q + 1) else (n, q)
      let ex := (q + (t.mb : Int) + (t.bias : Int)).toNat
      sign + ex * 2 ^ t.mb + (n - 2 ^ t.mb)

/-- The pattern of an infinity of a type that has one. -/
def infPattern (t : FloatTy) (neg : Bool) : Nat :=
  b2n neg * 2 ^ (t.eb + t.mb) + (2 ^ t.eb - 1) * 2 ^ t.mb

/-- The pattern of the largest finite magnitude. -/
def largestPattern (t : FloatTy) (neg : Bool) : Nat := encodeMag t neg (largestM t) (largestE t)

/-- A finite value as a pattern of the type, and whether it overflowed (R55, R56). `keepZero`: a zero
result keeps the sign of the value in a type with a negative zero; zeros without a signed rule pass
`false`. -/
def toPattern (t : FloatTy) (rnd : Rnd) (keepZero : Bool) (d : Dy) : Nat × Bool :=
  let (n, q) := roundMag t rnd d
  if n == 0 then
    (if t.int8 then 0 else if d.neg && (d.m != 0 || keepZero) then 2 ^ (t.eb + t.mb) else 0, false)
  else if aboveLargest t n q then
    (if t.hasInf && rnd != .rz then infPattern t d.neg else largestPattern t d.neg, true)
  else (encodeMag t d.neg n q, false)

/-- The canonical NaN pattern of an output format (R53). -/
def nanPattern : Nat → Nat
  | 0 => 0x7FC00000 | 1 => 0x7FC0 | 2 => 0x7E00 | 3 => 0x7F | 4 => 0x7E | 5 => 0x7F | 6 => 0x7E
  | 13 => 2 ^ 63 | 14 => 2 ^ 127 | 15 => 0x7FF8000000000000 | _ => 0

/-- The infinity pattern of an output format (R53); a type without infinity writes its NaN. -/
def infOut (f : Nat) (neg : Bool) : Nat :=
  if f == 13 then 2 ^ 63 + (if neg then 2 else 1)
  else if f == 14 then 2 ^ 127 + (if neg then 2 else 1)
  else if (fmtTy f).hasInf then infPattern (fmtTy f) neg else nanPattern f

/-! ### Binary32 arithmetic of the querns (R78, R83, R99) -/

/-- The exact sum of two finite values; a zero sum is +0 but for two negative zeros (R79). -/
def addDy (a b : Dy) : Dy :=
  let e := min a.e b.e
  let ia : Int := (a.m <<< (a.e - e).toNat : Nat)
  let ib : Int := (b.m <<< (b.e - e).toNat : Nat)
  let s := (if a.neg then -ia else ia) + (if b.neg then -ib else ib)
  if s == 0 then ⟨a.neg && b.neg, 0, 0⟩ else ⟨s < 0, s.natAbs, e⟩

/-- Sum of two values by IEEE rules on infinities and NaN (R80), exact on finite ones. -/
def addVal (a b : Val) : Val :=
  match a, b with
  | .nan, _ => .nan
  | _, .nan => .nan
  | .pinf, .ninf => .nan
  | .ninf, .pinf => .nan
  | .pinf, _ => .pinf
  | _, .pinf => .pinf
  | .ninf, _ => .ninf
  | _, .ninf => .ninf
  | .fin x, .fin y => .fin (addDy x y)

/-- A value rounded to a binary32 pattern; infinities and NaN as R53. -/
def toF32 (rnd : Rnd) (v : Val) : Nat :=
  match v with
  | .fin d => (toPattern tyFp32 rnd true d).1
  | .pinf => 0x7F800000
  | .ninf => 0xFF800000
  | .nan => 0x7FC00000

/-- The value of a binary32 pattern. -/
def ofF32 (n : Nat) : Val := decodeFloat tyFp32 n

/-- binary32 addition (R78). -/
def addF32 (rnd : Rnd) (a b : Nat) : Nat := toF32 rnd (addVal (ofF32 a) (ofF32 b))

/-- The square of a value, exactly. -/
def squareVal (v : Val) : Val :=
  match v with
  | .fin d => .fin ⟨false, d.m * d.m, d.e + d.e⟩
  | .nan => .nan
  | _ => .pinf

/-- fma(g, g, acc) in binary32 with RNE (R99). -/
def fmaSquare (g : Val) (acc : Nat) : Nat := toF32 .rne (addVal (squareVal g) (ofF32 acc))

/-! ### SCALED transport values (R81 to R86) -/

/-- A finite value at scale `x` on the grid of `t`: the rounded element as a multiple and quantum exponent. -/
def transportMag (t : FloatTy) (rnd : Rnd) (x : Int) (d : Dy) : Nat × Int :=
  roundMag t rnd { d with e := d.e - x }

/-- Whether the rounded element is above L (R86, R91). -/
def transportOver (t : FloatTy) (rnd : Rnd) (x : Int) (d : Dy) : Bool :=
  let (n, q) := transportMag t rnd x d
  aboveLargest t n q

/-- The transport value as a binary32 pattern, saturated to L * 2^x where `sat` allows it; every SCALED zero is
+0 (R55, R82, R91). -/
def transportF32 (t : FloatTy) (rnd : Rnd) (x : Int) (d : Dy) : Nat :=
  let (n, q) := transportMag t rnd x d
  let (n, q) := if aboveLargest t n q then (largestM t, largestE t) else (n, q)
  if n == 0 then 0 else (toPattern tyFp32 .rne false ⟨d.neg, n, q + x⟩).1

/-- The element of largest magnitude among finite values, by exponent and then exactly (R58, R86). -/
def amaxOf (ds : List Dy) : Dy :=
  ds.foldl (fun acc d => if magLt acc.m acc.e d.m d.e then { d with neg := false } else acc) ⟨false, 0, 0⟩

/-- The largest block scale of an element type (R81). -/
def scaleLimit (t : FloatTy) : Int := 127 - t.emax

/-! ### Output conversion (R51, R55 to R59) -/

/-- What an element is at the root: the sideband decides first (R51), then the lane (R80). -/
def sideVal (s : Sideband) (v : Val) : Val :=
  if s.nan || (s.pinf && s.ninf) then .nan
  else if s.pinf then .pinf
  else if s.ninf then .ninf
  else v

/-- One element to a non-MX output format. `lane` is the exact value of the lane. -/
def convertElem (f : Nat) (rnd : Rnd) (keepZero : Bool) (side : Sideband) (lane : Val) : Nat × Bool :=
  match sideVal side lane with
  | .nan => (nanPattern f, lane == .nan && !(sideAny side))
  | .pinf => (infOut f false, lane == .pinf && !(sideAny side))
  | .ninf => (infOut f true, lane == .ninf && !(sideAny side))
  | .fin d =>
    if f == 11 then (patternOf (if d.neg then -((d.m <<< d.e.toNat : Nat) : Int) else ((d.m <<< d.e.toNat : Nat) : Int)) 32, false)
    else toPattern (fmtTy f) rnd keepZero d

/-- The scale byte of an MX output block and whether it was capped (R58). -/
def mxScale (t : FloatTy) (vs : List Val) : Nat × Bool :=
  let a := amaxOf (vs.map Val.finite)
  if a.m == 0 then (0, false)
  else
    let x := a.exp - t.emax
    if 127 < x then (254, true)
    else if x < -127 then (0, false)
    else ((x + 127).toNat, false)

/-- One element of an MX block at scale byte `sb` (R53, R58). -/
def mxElem (f : Nat) (rnd : Rnd) (keepZero : Bool) (sb : Nat) (v : Val) : Nat :=
  let t := fmtTy f
  match v with
  | .nan => nanPattern f
  | .pinf => if t.hasInf then infPattern t false else nanPattern f
  | .ninf => if t.hasInf then infPattern t true else nanPattern f
  | .fin d =>
    let d := { d with e := d.e - ((sb : Int) - 127) }
    let (n, q) := roundMag t rnd d
    if n == 0 then (if t.int8 then 0 else if d.neg && (d.m != 0 || keepZero) then 2 ^ (t.eb + t.mb) else 0)
    else if aboveLargest t n q then largestPattern t d.neg
    else encodeMag t d.neg n q

/-- One MX output block: element codes, scale byte, OUTPUT_RANGE. `arose` marks a non-finite lane that no sideband
explains (R80). -/
def mxBlock (f : Nat) (rnds : List Rnd) (keepZero : Bool) (vs : List Val) (arose : Bool) :
    List Nat × Nat × Bool :=
  let t := fmtTy f
  let nonFin := vs.any fun v => match v with | .fin _ => false | _ => true
  if nonFin && !(f == 5 || f == 6) then (vs.map fun _ => 0, 255, arose)
  else
    let (sb, cap) := mxScale t vs
    ((vs.zip rnds).map fun (v, r) => mxElem f r keepZero sb v, sb, cap || arose)

end Sys2Proof.Machine
end

