-- ==== Sys2Proof/Machine/Ops.lean ====
section
/-! DEFINITION. Named operations over the state: objects and counters, configuration in force, units, outputs,
on-die messages, free values, the sump, and the flag master. -/

namespace Sys2Proof.Machine

open Sys2Proof.Config (Params)

/-! ### The object dictionary's rows (R380, R381, R382) -/

/-- Object types (R381). -/
inductive ObjTy where
  | bool | u8 | u16 | u32 | u64 | i32 | i64 | bits32 | enum8 | gtc64 | dig256
  | octets (n : Nat)
  deriving DecidableEq, Repr

/-- Access rights (R382). -/
inductive Acc where
  | ro | rw | rwi | wo | const
  deriving DecidableEq, Repr

/-- One row of a listing: subindices `lo` to `hi`, their type, access, reset values in order (the last one repeats)
and the range or listed codes a write may carry. -/
structure ObjRow where
  lo : Nat
  hi : Nat
  ty : ObjTy
  acc : Acc
  dflt : List Nat := [0]
  min : Nat := 0
  max : Nat := 0xFFFFFFFFFFFFFFFF
  deriving DecidableEq, Repr

/-- Bytes of a value (R381). -/
def ObjTy.bytes : ObjTy → Nat
  | .bool => 1 | .u8 => 1 | .u16 => 2 | .u32 => 4 | .u64 => 8 | .i32 => 4 | .i64 => 8
  | .bits32 => 4 | .enum8 => 1 | .gtc64 => 8 | .dig256 => 32 | .octets n => n

/-- Rows of 0x1000 (identity and instance parameters). -/
def rows1000 (p : Params) : List ObjRow :=
  [⟨0x01, 0x01, .u32, .const, [0x53594E56], 0, 0⟩, ⟨0x02, 0x02, .u32, .const, [0x4E4C594E], 0, 0⟩,
   ⟨0x03, 0x03, .u16, .const, [p.hostPart], 0, 0⟩, ⟨0x04, 0x04, .u8, .const, [p.stepping], 0, 0⟩,
   ⟨0x05, 0x05, .u8, .const, [p.grade], 0, 0⟩, ⟨0x06, 0x06, .u64, .const, [p.classBase.toNat], 0, 0⟩,
   ⟨0x07, 0x07, .u16, .const, [1], 0, 0⟩, ⟨0x08, 0x08, .u64, .const, [p.serial.toNat], 0, 0⟩,
   ⟨0x10, 0x19, .u8, .const,
     [p.taps, p.planes, p.leafQuerns, p.planeQuerns, p.poolQuerns, p.spares, p.latticePorts, p.aditPorts,
      b2n p.galleryPackage, b2n p.handover], 0, 0⟩,
   ⟨0x1A, 0x1A, .u16, .const, [4096], 0, 0⟩, ⟨0x1B, 0x1B, .u8, .const, [16], 0, 0⟩,
   ⟨0x1C, 0x1C, .u16, .const, [256], 0, 0⟩, ⟨0x1D, 0x1D, .u8, .const, [p.coreTiles], 0, 0⟩]

/-- Rows of 0x1100 (paths and lock), with the straps as defaults (R427). -/
def rows1100 (node i3c : Nat) : List ObjRow :=
  [⟨0x01, 0x01, .u32, .rwi, [node], 0, 0xFFFFFFFE⟩, ⟨0x02, 0x02, .bits32, .rw, [7], 0, 0xFFFFFFFF⟩,
   ⟨0x03, 0x03, .enum8, .wo, [0], 1, 3⟩, ⟨0x04, 0x04, .enum8, .ro, [0], 0, 0⟩,
   ⟨0x05, 0x05, .u32, .ro, [0xFFFFFFFF], 0, 0⟩, ⟨0x06, 0x06, .u32, .rw, [10000], 0, 3600000⟩,
   ⟨0x07, 0x07, .gtc64, .ro, [0], 0, 0⟩, ⟨0x08, 0x08, .u8, .rw, [16], 1, 16⟩,
   ⟨0x09, 0x09, .u32, .rw, [100000], 1000, 10000000⟩, ⟨0x0A, 0x0A, .u8, .rw, [i3c], 0x08, 0x77⟩,
   ⟨0x0B, 0x0B, .u8, .ro, [0], 0, 0⟩]

/-- Rows of 0x2000 (R332). -/
def rows2000 : List ObjRow :=
  [⟨1, 1, .bool, .rw, [0], 0, 1⟩, ⟨2, 2, .bool, .ro, [0], 0, 0⟩, ⟨3, 3, .bool, .rw, [0], 0, 1⟩]

/-- Rows of 0x2100 + q (R379, R402). -/
def rows2100 : List ObjRow :=
  [⟨1, 1, .enum8, .ro, [0], 0, 0⟩, ⟨2, 2, .u8, .ro, [0xFF], 0, 0⟩, ⟨3, 3, .u8, .wo, [0], 0, 0xFF⟩,
   ⟨4, 4, .enum8, .const, [0], 0, 0⟩]

/-- Rows of 0x2200 (R400). -/
def rows2200 : List ObjRow :=
  [⟨1, 1, .u16, .rw, [0], 0, 0xFFFF⟩, ⟨2, 2, .enum8, .wo, [0], 1, 3⟩, ⟨3, 3, .enum8, .ro, [0], 0, 0⟩,
   ⟨4, 4, .enum8, .ro, [0], 0, 0⟩, ⟨5, 5, .u32, .ro, [0], 0, 0⟩, ⟨6, 6, .enum8, .rw, [0], 0, 1⟩,
   ⟨7, 7, .bits32, .ro, [0], 0, 0⟩]

/-- Rows of 0x2201 (R401). -/
def rows2201 : List ObjRow :=
  [⟨0x01, 0x01, .u8, .rw, [5], 1, 6⟩, ⟨0x02, 0x07, .u8, .rw, [7, 6, 6, 2, 3, 0], 0, 0xFF⟩,
   ⟨0x08, 0x0D, .u32, .rw, [128, 60, 60, 4, 8, 0], 0, 0xFFFFFFFF⟩, ⟨0x0E, 0x0E, .u32, .rw, [0], 0, 0xFFFFFFFF⟩,
   ⟨0x0F, 0x0F, .enum8, .wo, [0], 1, 1⟩]

/-- Rows of 0x2210 + k (R401). -/
def rows2210 : List ObjRow :=
  [⟨0x01, 0x01, .bool, .rw, [0], 0, 1⟩, ⟨0x02, 0x02, .bool, .rw, [0], 0, 1⟩, ⟨0x03, 0x03, .u8, .rw, [0xFF], 0, 0xFF⟩,
   ⟨0x04, 0x04, .u16, .rw, [0xFFFF], 0, 0xFFFF⟩, ⟨0x05, 0x05, .u32, .rw, [0], 0, 0xFFFFFFFF⟩,
   ⟨0x06, 0x07, .u32, .rw, [0], 0, 0xFFFFFFFF⟩, ⟨0x08, 0x08, .u16, .ro, [0], 0, 0⟩, ⟨0x09, 0x09, .enum8, .ro, [0], 0, 0⟩,
   ⟨0x0A, 0x0A, .enum8, .wo, [0], 1, 2⟩, ⟨0x0B, 0x0B, .bool, .rw, [0], 0, 1⟩]

/-- Rows of 0x2240 + q (R402). -/
def rows2240 : List ObjRow :=
  [⟨0x01, 0x01, .u8, .rw, [0xFF], 0, 0xFF⟩, ⟨0x02, 0x02, .u16, .rw, [0], 0, 0xFFFF⟩,
   ⟨0x03, 0x03, .u32, .rw, [0], 0, 0xFFFFFFFF⟩, ⟨0x04, 0x04, .u8, .ro, [0], 0, 0⟩,
   { lo := 0x10, hi := 0x1F, ty := .u64, acc := .rw }, { lo := 0x20, hi := 0x2F, ty := .u64, acc := .rw }]

/-- Rows of 0x3000 + t (R150, R402). -/
def rows3000 : List ObjRow :=
  [⟨0x01, 0x01, .u32, .rwi, [0], 0, 0xFFFFFFFF⟩, ⟨0x02, 0x02, .enum8, .ro, [0], 0, 0⟩,
   ⟨0x03, 0x03, .bits32, .rw, [0], 0, 0xFFFFFFFF⟩, { lo := 0x04, hi := 0x04, ty := .u64, acc := .ro },
   { lo := 0x05, hi := 0x07, ty := .u32, acc := .ro }, { lo := 0x08, hi := 0x08, ty := .u64, acc := .rwi },
   ⟨0x09, 0x09, .u32, .rwi, [64], 64, 65536⟩, { lo := 0x0A, hi := 0x0B, ty := .u64, acc := .rwi },
   { lo := 0x0C, hi := 0x0C, ty := .u64, acc := .rw }, ⟨0x0D, 0x0D, .enum8, .wo, [0], 1, 4⟩,
   { lo := 0x0E, hi := 0x0E, ty := .u32, acc := .ro }, ⟨0x10, 0x17, .u16, .rwi, [0xFFFF], 0, 0xFFFF⟩,
   { lo := 0x18, hi := 0x18, ty := .dig256, acc := .ro }]

/-- Rows of 0x3100 + r (R148). -/
def rows3100 : List ObjRow :=
  [{ lo := 1, hi := 2, ty := .u64, acc := .rwi }, { lo := 3, hi := 3, ty := .bits32, acc := .rwi }]

/-- Rows of 0x4000 + p (R278). -/
def rows4000 : List ObjRow :=
  [⟨0x01, 0x01, .enum8, .ro, [1], 0, 0⟩, ⟨0x02, 0x02, .enum8, .wo, [0], 1, 4⟩,
   ⟨0x03, 0x03, .u32, .rw, [0xFFFFFFFF], 0, 0xFFFFFFFF⟩, ⟨0x04, 0x04, .u16, .rw, [0xFFFF], 0, 0xFFFF⟩,
   ⟨0x05, 0x05, .u32, .ro, [0xFFFFFFFF], 0, 0⟩, ⟨0x06, 0x06, .u16, .ro, [0xFFFF], 0, 0⟩,
   ⟨0x07, 0x07, .u16, .ro, [0], 0, 0⟩, ⟨0x08, 0x09, .bits32, .ro, [0], 0, 0⟩,
   ⟨0x0A, 0x0A, .bits32, .rw, [0], 0, 0xFFFFFFFF⟩, ⟨0x0B, 0x0B, .u8, .rw, [2], 2, 8⟩,
   { lo := 0x0C, hi := 0x0C, ty := .u64, acc := .rwi }, ⟨0x0D, 0x0D, .u16, .rwi, [64], 8, 256⟩,
   ⟨0x0E, 0x0E, .u16, .rwi, [32], 8, 256⟩, ⟨0x0F, 0x0F, .u16, .rwi, [8], 4, 64⟩,
   ⟨0x10, 0x10, .u32, .rw, [3000], 1000, 100000⟩, ⟨0x11, 0x11, .u8, .rw, [4], 1, 16⟩,
   ⟨0x12, 0x12, .bits32, .ro, [0], 0, 0⟩, ⟨0x13, 0x13, .enum8, .ro, [0], 0, 0⟩]

/-- Rows of 0x4100 + a (R306). -/
def rows4100 : List ObjRow :=
  [⟨0x01, 0x01, .enum8, .ro, [1], 0, 0⟩, ⟨0x02, 0x02, .enum8, .wo, [0], 1, 3⟩,
   ⟨0x03, 0x03, .u32, .rw, [0xFFFFFFFF], 0, 0xFFFFFFFF⟩, ⟨0x04, 0x04, .u16, .rw, [0xFFFF], 0, 0xFFFF⟩,
   ⟨0x05, 0x05, .u32, .ro, [0xFFFFFFFF], 0, 0⟩, ⟨0x06, 0x06, .u16, .ro, [0xFFFF], 0, 0⟩,
   { lo := 0x07, hi := 0x08, ty := .octets 6, acc := .rwi }, ⟨0x09, 0x09, .u16, .rwi, [0x88B5], 0, 0xFFFF⟩,
   ⟨0x0A, 0x0A, .u32, .rwi, [0], 0, 0xFFFFFFFF⟩, ⟨0x0B, 0x0B, .u8, .rwi, [32], 1, 32⟩,
   ⟨0x0C, 0x0C, .bool, .rwi, [1], 0, 1⟩, ⟨0x0D, 0x0D, .bits32, .ro, [0], 0, 0⟩,
   { lo := 0x0E, hi := 0x0E, ty := .u64, acc := .rwi }, ⟨0x0F, 0x0F, .u16, .rwi, [0], 0, 128⟩,
   ⟨0x10, 0x10, .u32, .rw, [3000], 100, 100000⟩, ⟨0x11, 0x11, .u32, .ro, [0], 0, 0⟩,
   ⟨0x12, 0x12, .u32, .rw, [10], 1, 1000⟩, ⟨0x13, 0x13, .u32, .rw, [200], 10, 100000⟩,
   ⟨0x14, 0x14, .u32, .rw, [1000], 100, 1000000⟩, ⟨0x15, 0x15, .u16, .rw, [100], 0, 10000⟩,
   ⟨0x16, 0x16, .bits32, .ro, [0], 0, 0⟩, ⟨0x17, 0x17, .gtc64, .ro, [0], 0, 0⟩, ⟨0x18, 0x18, .enum8, .ro, [0], 0, 0⟩]

/-- Rows of 0x4110 (R403). -/
def rows4110 : List ObjRow := [{ lo := 1, hi := 2, ty := .u64, acc := .rwi }]

/-- Rows of 0x5010 (R332). -/
def rows5010 (p : Params) : List ObjRow :=
  [⟨1, 1, .u64, .ro, [p.classBase.toNat], 0, 0⟩, ⟨2, 3, .u64, .ro, [0], 0, 0⟩, ⟨4, 4, .u32, .ro, [0], 0, 0⟩]

/-- Rows of 0x5040 (R345): constants on an instance with the on-die Gallery. -/
def rows5040 (p : Params) : List ObjRow :=
  let a : Acc := if p.galleryPackage then .rwi else .const
  [{ lo := 1, hi := 1, ty := .u64, acc := a },
   { lo := 2, hi := 2, ty := .u64, acc := a, dflt := [if p.galleryPackage then 0 else 8 * 2 ^ 20] },
   ⟨3, 3, .u16, a, [4096], 256, 4096⟩, ⟨4, 5, .u16, .ro, [0], 0, 0⟩, ⟨6, 7, .u64, .ro, [0], 0, 0⟩,
   ⟨8, 8, .u32, .ro, [0], 0, 0⟩, ⟨9, 9, .enum8, .wo, [0], 1, 1⟩]

/-- Rows of 0x5041 (R345). -/
def rows5041 : List ObjRow :=
  [{ lo := 1, hi := 1, ty := .u64, acc := .rw }, ⟨2, 2, .u32, .rw, [0], 0, 0xFFFFFFFF⟩,
   ⟨3, 3, .u32, .rw, [0x00FFFFFF], 0, 0xFFFFFFFF⟩, ⟨4, 4, .enum8, .wo, [0], 1, 2⟩, ⟨5, 5, .enum8, .ro, [0], 0, 0⟩]

/-- Rows of 0x6020 (R226). -/
def rows6020 : List ObjRow :=
  [⟨1, 6, .u32, .rw, [20000, 400000, 1000, 10000, 2000000, 5000000], 1, 0xFFFFFFFF⟩]

/-- Rows of 0x6040 (R244). -/
def rows6040 : List ObjRow :=
  [⟨0x01, 0x01, .gtc64, .ro, [0], 0, 0⟩, ⟨0x02, 0x02, .enum8, .ro, [0], 0, 0⟩, ⟨0x03, 0x03, .i64, .ro, [0], 0, 0⟩,
   ⟨0x04, 0x04, .u64, .ro, [0], 0, 0⟩, ⟨0x05, 0x05, .i64, .ro, [0], 0, 0⟩, ⟨0x06, 0x06, .u16, .rw, [0xFFFF], 0, 0xFFFF⟩,
   { lo := 0x07, hi := 0x07, ty := .gtc64, acc := .wo }, ⟨0x08, 0x08, .u32, .rw, [1000], 100, 100000⟩,
   ⟨0x09, 0x09, .u32, .rw, [10], 0, 0xFFFFFFFF⟩, ⟨0x0A, 0x0A, .u32, .rw, [1000], 0, 0xFFFFFFFF⟩,
   ⟨0x0B, 0x0B, .u32, .rw, [200000], 0, 0xFFFFFFFF⟩, ⟨0x0C, 0x0C, .u32, .ro, [0xFFFFFFFF], 0, 0⟩,
   ⟨0x0D, 0x0D, .bool, .rw, [0], 0, 1⟩]

/-- Rows of 0x6050 (R244). -/
def rows6050 : List ObjRow :=
  [{ lo := 1, hi := 1, ty := .gtc64, acc := .rw }, ⟨2, 2, .enum8, .wo, [0], 1, 2⟩, ⟨3, 3, .enum8, .ro, [0], 0, 0⟩,
   ⟨4, 4, .gtc64, .ro, [0], 0, 0⟩, ⟨5, 6, .u32, .rw, [50, 150], 0, 0xFFFFFFFF⟩, ⟨7, 7, .u32, .ro, [0], 0, 0⟩,
   ⟨8, 8, .u8, .ro, [0], 0, 0⟩]

/-- Rows of 0x7000 (R379). -/
def rows7000 : List ObjRow :=
  [⟨1, 1, .u32, .ro, [0], 0, 0⟩, ⟨2, 2, .u32, .ro, [0xFFFFFFFF], 0, 0⟩, ⟨3, 3, .u32, .rw, [0], 0, 0xFFFFFFFF⟩,
   ⟨4, 0x0B, .u64, .ro, [0], 0, 0⟩, ⟨0x0C, 0x0C, .u32, .ro, [0], 0, 0⟩, ⟨0x0D, 0x0D, .enum8, .wo, [0], 1, 1⟩,
   ⟨0x0E, 0x0E, .u32, .ro, [0], 0, 0⟩]

/-- Rows of 0x7010 (R379). -/
def rows7010 : List ObjRow :=
  [⟨1, 1, .bool, .rw, [1], 0, 1⟩, ⟨2, 2, .u32, .rw, [1000000], 1000, 60000000⟩, ⟨3, 3, .bits32, .wo, [0], 0, 0xFFFFFFFF⟩]

/-- Rows of 0x7018 + a (R404). -/
def rows7018 : List ObjRow :=
  [⟨0x01, 0x09, .u32, .ro, [0], 0, 0⟩, ⟨0x0A, 0x0B, .u64, .ro, [0], 0, 0⟩, ⟨0x0C, 0x0E, .u32, .ro, [0], 0, 0⟩,
   ⟨0x18, 0x1F, .u32, .ro, [0], 0, 0⟩]

/-- Rows of 0x7038 (R405). -/
def rows7038 : List ObjRow :=
  [⟨1, 1, .enum8, .rw, [0], 1, 6⟩, ⟨2, 2, .u16, .rw, [0], 0, 0xFFFF⟩, ⟨3, 3, .u16, .rw, [1], 1, 1000⟩,
   ⟨4, 4, .enum8, .wo, [0], 1, 2⟩, ⟨5, 5, .enum8, .ro, [0], 0, 0⟩, ⟨6, 6, .u16, .ro, [0], 0, 0⟩]

/-- Rows of 0x7080 + t (R404). -/
def rows7080 : List ObjRow :=
  [⟨0x01, 0x21, .u32, .ro, [0], 0, 0⟩, ⟨0x22, 0x22, .u64, .ro, [0], 0, 0⟩, ⟨0x23, 0x28, .u32, .ro, [0], 0, 0⟩]

/-- Rows of 0x7100 (R405). -/
def rows7100 : List ObjRow :=
  [⟨1, 1, .enum8, .rw, [0], 0, 2⟩, ⟨2, 2, .enum8, .ro, [0], 0, 0⟩, ⟨3, 3, .u16, .rw, [1000], 600, 1100⟩,
   ⟨4, 4, .bits32, .ro, [0], 0, 0⟩, ⟨5, 5, .enum8, .wo, [0], 1, 2⟩, ⟨6, 6, .enum8, .ro, [0], 0, 0⟩,
   ⟨7, 7, .u32, .rw, [0], 0, 0xFFFFFFFF⟩, ⟨8, 8, .u8, .ro, [0], 0, 0⟩, ⟨9, 9, .u32, .ro, [0], 0, 0⟩]

/-- Rows of 0x7102 (R405). -/
def rows7102 : List ObjRow :=
  [⟨1, 1, .enum8, .wo, [0], 1, 1⟩, ⟨2, 2, .bits32, .wo, [0], 0, 0xFFFFFFFF⟩, ⟨3, 5, .u8, .wo, [0], 0, 0xFF⟩,
   ⟨6, 6, .enum8, .ro, [0], 0, 0⟩]

/-- Rows of 0x7F00 (R406). -/
def rows7F00 (p : Params) : List ObjRow :=
  [⟨1, 1, .enum8, .ro, [0], 0, 0⟩, ⟨2, 2, .u32, .ro, [p.bootVersion.toNat], 0, 0⟩, ⟨3, 3, .u32, .ro, [0], 0, 0⟩,
   ⟨4, 4, .bits32, .ro, [1], 0, 0⟩, ⟨5, 5, .u32, .rw, [0], 0, 262144⟩, { lo := 6, hi := 6, ty := .u64, acc := .rw },
   ⟨7, 7, .u32, .ro, [0], 0, 0⟩, { lo := 8, hi := 8, ty := .octets 256, acc := .wo, max := 256 ^ 256 - 1 }, ⟨9, 9, .enum8, .wo, [0], 1, 4⟩,
   ⟨0x0A, 0x0A, .enum8, .ro, [0], 0, 0⟩]

/-- Whether `i` is one of the `n` indices from `b`. -/
def inIdx (i b n : Nat) : Bool := b ≤ i && i < b + n

/-- The rows of an index; none where the instance does not have it (R380). -/
def rowsOf (p : Params) (node i3c : Nat) (i : Nat) : List ObjRow :=
  if i = 0x1000 then rows1000 p
  else if i = 0x1100 then rows1100 node i3c
  else if i = 0x2000 then rows2000
  else if inIdx i 0x2100 p.querns then rows2100
  else if i = 0x2200 then rows2200
  else if i = 0x2201 then rows2201
  else if inIdx i 0x2210 p.planes then rows2210
  else if inIdx i 0x2240 p.querns then rows2240
  else if inIdx i 0x3000 p.taps then rows3000
  else if inIdx i 0x3100 256 then rows3100
  else if inIdx i 0x4000 p.latticePorts then rows4000
  else if inIdx i 0x4100 p.aditPorts then rows4100
  else if i = 0x4110 then (if p.galleryPackage then rows4110 else [])
  else if i = 0x5000 then [{ lo := 1, hi := 0x20, ty := .u64, acc := .rw }]
  else if i = 0x5001 then [{ lo := 1, hi := 0x20, ty := .u64, acc := .ro }]
  else if i = 0x5010 then rows5010 p
  else if i = 0x5020 then [⟨1, 4, .u64, .const, eddyKeys, 0, 0⟩]
  else if i = 0x5040 then rows5040 p
  else if i = 0x5041 then rows5041
  else if i = 0x5042 then [⟨1, if p.galleryPackage then 8 else 4, .u64, .ro, [0], 0, 0⟩]
  else if i = 0x5043 || i = 0x5044 then [⟨1, 0x80, .u64, .ro, [0], 0, 0⟩]
  else if i = 0x5045 then [⟨1, 2, .u64, .ro, [0], 0, 0⟩, ⟨3, 3, .u16, .ro, [0], 0, 0⟩]
  else if i = 0x5050 then
    [⟨1, 1, .u32, .rw, [0], 0, 0xFFFFFFFF⟩, { lo := 2, hi := 2, ty := .u64, acc := .rw }, ⟨3, 3, .enum8, .wo, [0], 1, 2⟩,
     ⟨4, 4, .enum8, .ro, [0], 0, 0⟩]
  else if i = 0x5051 then [⟨1, 1, .u8, .rw, [0], 0, 0xFF⟩, ⟨2, 2, .u8, .rw, [0], 0, 16⟩, ⟨3, 6, .u64, .ro, [0], 0, 0⟩]
  else if i = 0x6000 then [⟨1, 0x40, .u64, .ro, [0], 0, 0⟩]
  else if i = 0x6001 then [⟨1, 2, .u16, .wo, [0], 0, 0xFFFF⟩]
  else if i = 0x6010 then [⟨1, 1, .bits32, .ro, [0xFFFF], 0, 0⟩]
  else if i = 0x6020 then rows6020
  else if i = 0x6030 then [⟨1, 1, .enum8, .wo, [0], 1, 2⟩, ⟨2, 2, .enum8, .ro, [0], 0, 0⟩]
  else if i = 0x6040 then rows6040
  else if i = 0x6041 then
    (if p.aditPorts = 0 then [] else
      [⟨1, p.aditPorts, .i32, .rw, [0], 0, 0xFFFFFFFF⟩, ⟨0x11, 0x10 + p.aditPorts, .u32, .rw, [100000], 0, 0xFFFFFFFF⟩])
  else if i = 0x6042 then
    (if p.aditPorts = 0 then [] else
      [⟨1, p.aditPorts, .u32, .rw, [0], 0, 0xFFFFFFFF⟩, ⟨0x11, 0x10 + p.aditPorts, .u32, .rw, [0], 0, 0xFFFFFFFF⟩])
  else if i = 0x6050 then rows6050
  else if i = 0x7000 then rows7000
  else if i = 0x7001 then [⟨1, 1, .enum8, .wo, [0], 1, 1⟩, ⟨2, 8, .u32, .ro, [0], 0, 0⟩]
  else if inIdx i 0x7008 p.planes then [⟨1, 7, .u32, .ro, [0], 0, 0⟩]
  else if i = 0x7010 then rows7010
  else if inIdx i 0x7018 p.aditPorts then rows7018
  else if inIdx i 0x7020 p.querns then [⟨1, 0x1A, .u32, .ro, [0], 0, 0⟩]
  else if i = 0x7038 then rows7038
  else if inIdx i 0x7040 p.latticePorts then [⟨1, 0x15, .u32, .ro, [0], 0, 0⟩, ⟨0x18, 0x1F, .u32, .ro, [0], 0, 0⟩]
  else if inIdx i 0x7080 p.taps then rows7080
  else if i = 0x7100 then rows7100
  else if i = 0x7101 then [⟨1, 0x40, .u64, .ro, [0], 0, 0⟩]
  else if i = 0x7102 then rows7102
  else if i = 0x7F00 then rows7F00 p
  else []

/-- The row of a subindex. -/
def rowOf (rs : List ObjRow) (sub : Nat) : Option ObjRow := rs.find? fun r => r.lo ≤ sub && sub ≤ r.hi

/-- The reset value a row gives a subindex. -/
def ObjRow.reset (r : ObjRow) (sub : Nat) : Nat := r.dflt.getD (sub - r.lo) (r.dflt.getLastD 0)

/-- The key of an object in a register file. -/
def odKey (i sub : Nat) : Nat := i * 256 + sub

/-- The row of an object on this instance. -/
def objRow (s : State) (i sub : Nat) : Option ObjRow :=
  rowOf (rowsOf s.params s.nodeStrap.toNat s.i3cStrap.toNat i) sub

/-- The reset value of an object. -/
def odReset (s : State) (i sub : Nat) : Nat := ((objRow s i sub).map fun r => r.reset sub).getD 0

/-- The stored value of an object. -/
def odGet (s : State) (i sub : Nat) : Nat := RegFile.get (odReset s i sub) (odKey i sub) s.od

/-- Store a value in an object. -/
def odSet (s : State) (i sub v : Nat) : State := { s with od := RegFile.set (odReset s i sub) (odKey i sub) v s.od }

/-- Add `n` to a counter that wraps at 2^32: the audit counters (R212, R404). -/
def audAdd (s : State) (i sub n : Nat) : State := odSet s i sub ((odGet s i sub + n) % 2 ^ 32)

/-- Add `n` to a saturating U32 counter (R404). -/
def cntAdd (s : State) (i sub n : Nat) : State := odSet s i sub (min (odGet s i sub + n) 0xFFFFFFFF)

/-- Add 1 to a saturating U32 counter. -/
def cnt (s : State) (i sub : Nat) : State := cntAdd s i sub 1

/-- The value in force of a tree configuration object (R399). -/
def cfg (s : State) (i sub : Nat) : Nat := RegFile.get (odReset s i sub) (odKey i sub) s.inForce

/-- Set a value in force. -/
def cfgSet (s : State) (i sub v : Nat) : State :=
  { s with inForce := RegFile.set (odReset s i sub) (odKey i sub) v s.inForce }

/-! ### Outputs, on-die messages, free values, units -/

/-- Drive an output (log entry 6). -/
def emit (s : State) (o : Output) : State := { s with outs := s.outs ++ [o] }

/-- Send a message or event to another unit of the die (log entry 4). -/
def post (s : State) (c : Instr) : State := { s with onDie := s.onDie ++ [c] }

/-- Send several, in order. DESIGN CHOICE (log entry 4). -/
def postAll (s : State) (cs : List Instr) : State := { s with onDie := s.onDie ++ cs }

/-- The next free value (log entry 3). -/
def freeVal (s : State) : Nat := Config.freeNat s.freeCount

/-- The state once a free value has been taken. DESIGN CHOICE (log entry 3). -/
def useFree (s : State) : State := { s with freeCount := s.freeCount + 1 }

/-- Tap `t`. -/
def tapAt (s : State) (t : Nat) : Tap := s.taps.getD t {}
/-- Change tap `t`. -/
def modTap (s : State) (t : Nat) (f : Tap → Tap) : State := { s with taps := s.taps.modify t f }
/-- The quern at position `q`. -/
def quernAt (s : State) (q : Nat) : Quern := s.querns.getD q {}
/-- Change the quern at position `q`. -/
def modQuern (s : State) (q : Nat) (f : Quern → Quern) : State := { s with querns := s.querns.modify q f }
/-- Lattice port `p`. -/
def latAt (s : State) (p : Nat) : LatPort := s.lattice.getD p {}
/-- Change lattice port `p`. -/
def modLat (s : State) (p : Nat) (f : LatPort → LatPort) : State := { s with lattice := s.lattice.modify p f }
/-- Adit port `a`. -/
def aditAt (s : State) (a : Nat) : AditPort := s.adits.getD a {}
/-- Change adit port `a`. -/
def modAdit (s : State) (a : Nat) (f : AditPort → AditPort) : State := { s with adits := s.adits.modify a f }

/-- Apply `f` for each element, in order. -/
def forAll {α : Type} (l : List α) (s : State) (f : State → α → State) : State := l.foldl f s

/-- A meaning that needs tap `t` (R24). DEDUCED (log entry 104). -/
def withTap (s : State) (t : Nat) (f : State → State) : Host.Outcome State Fault Refusal :=
  if t < s.params.taps then .next (f s) else .fault (.absentUnit "tap" t)
/-- A meaning that needs quern position `q`. DEDUCED (log entry 104). -/
def withQuern (s : State) (q : Nat) (f : State → State) : Host.Outcome State Fault Refusal :=
  if q < s.params.positions then .next (f s) else .fault (.absentUnit "quern" q)
/-- A meaning that needs plane `k`. DEDUCED (log entry 104). -/
def withPlane (s : State) (k : Nat) (f : State → State) : Host.Outcome State Fault Refusal :=
  if k < s.params.planes then .next (f s) else .fault (.absentUnit "plane" k)
/-- A meaning that needs lattice port `p`. DEDUCED (log entry 104). -/
def withLat (s : State) (p : Nat) (f : State → State) : Host.Outcome State Fault Refusal :=
  if p < s.params.latticePorts then .next (f s) else .fault (.absentUnit "lattice port" p)
/-- A meaning that needs adit port `a`. DEDUCED (log entry 104). -/
def withAdit (s : State) (a : Nat) (f : State → State) : Host.Outcome State Fault Refusal :=
  if a < s.params.aditPorts then .next (f s) else .fault (.absentUnit "adit port" a)
/-- A meaning that needs the unit a downward message reaches. -/
def withUnit (s : State) (u : UnitRef) (f : State → State) : Host.Outcome State Fault Refusal :=
  match u with
  | .tap t => withTap s t f
  | .quern q => withQuern s q f
/-- A meaning that needs a port. -/
def withPort (s : State) (p : PortRef) (f : State → State) : Host.Outcome State Fault Refusal :=
  match p with
  | .lattice p => withLat s p f
  | .adit a => withAdit s a f

/-- NODE_ID (0x1100.01). -/
def nodeId (s : State) : Nat := odGet s 0x1100 0x01

/-- The GTC in ns: the count of the last tick and what interpolation has shown since (R228). DESIGN CHOICE (log entry 28). -/
def gtcNow (s : State) : U64 := s.gtc.count + u64 s.gtc.sub

/-! ### The sump (R367 to R371) -/

/-- A record before GTC and SEQ are known. `sev`: 0 error, 1 warning, 2 notice, 3 continuation (R368). -/
def sumpRec (code sev kind obj plane contrib detail : Nat) (ctx : U64) : SumpRec :=
  { w0 := 0
    w1 := u64 (code % 65536 * 2 ^ 16 + sev % 4 * 2 ^ 14 + kind % 256)
    w2 := u64 (contrib % 2 ^ 24 * 2 ^ 40 + plane % 256 * 2 ^ 32 + obj % 65536 * 2 ^ 16 + detail % 65536)
    w3 := ctx }

/-- CODE of a record. -/
def SumpRec.code (r : SumpRec) : Nat := fieldOf r.w1 31 16
/-- SEQ of a record. -/
def SumpRec.seq (r : SumpRec) : U32 := u32 (fieldOf r.w1 63 32)

/-- Equal for merging (R369). -/
def sumpSame (a b : SumpRec) : Bool :=
  fieldOf a.w1 31 16 == fieldOf b.w1 31 16 && fieldOf a.w1 7 0 == fieldOf b.w1 7 0 && a.w2 == b.w2 && a.w3 == b.w3

/-- Equal continuations for merging (R369). -/
def contSame : Option SumpRec → Option SumpRec → Bool
  | none, none => true
  | some a, some b => a.w2 == b.w2 && a.w3 == b.w3
  | _, _ => false

/-- REPEAT one higher, saturating at 63. -/
def bumpRepeat (r : SumpRec) : SumpRec :=
  if fieldOf r.w1 13 8 < 63 then { r with w1 := r.w1 + 0x100 } else r

/-- One record into the ring; a full ring loses its oldest record (R367). -/
def sumpPut (s : State) (r : SumpRec) : State :=
  let full := 1024 ≤ s.sump.recs.length
  let recs := (if full then s.sump.recs.drop 1 else s.sump.recs) ++ [r]
  let s := { s with sump := { s.sump with recs := recs, nextSeq := s.sump.nextSeq + 1 } }
  if full then cnt s 0x7000 0x0C else s

/-- A record with the GTC and SEQ of now. -/
def sumpStamp (s : State) (r : SumpRec) : SumpRec :=
  { r with w0 := gtcNow s, w1 := r.w1 + u64 (s.sump.nextSeq.toNat * 2 ^ 32) }

/-- Write a record and its continuation now, merged where R369 says so. DEDUCED (log entry 68). -/
def sumpNow (s : State) (r : SumpRec) (c : Option SumpRec) : State :=
  match assocGet r.code s.sump.lastRec with
  | some (l, lc) =>
    if sumpSame r l && contSame c lc && (gtcNow s).toNat < l.w0.toNat + 1000000 then
      let recs := s.sump.recs.map fun x => if x.seq = l.seq && x.code = l.code then bumpRepeat x else x
      { s with sump := { s.sump with recs := recs, lastRec := assocPut r.code (bumpRepeat l, lc) s.sump.lastRec } }
    else sumpFresh s r c
  | none => sumpFresh s r c
where
  /-- Write the record as a new one. -/
  sumpFresh (s : State) (r : SumpRec) (c : Option SumpRec) : State :=
    let r := sumpStamp s r
    let s := sumpPut s r
    let first := if s.sump.first.isNone && fieldOf r.w1 15 14 == 0 then some r else s.sump.first
    let s := { s with sump := { s.sump with first := first } }
    match c with
    | none => { s with sump := { s.sump with lastRec := assocPut r.code (r, none) s.sump.lastRec } }
    | some c =>
      let c := sumpStamp s c
      let s := sumpPut s c
      { s with sump := { s.sump with lastRec := assocPut r.code (r, some c) s.sump.lastRec } }

/-- The SEQ of the record `r` just written or merged; while records are queued, the SEQ that the newest one will take. -/
def sumpSeqOf (s : State) (r : SumpRec) : U32 :=
  if s.swapping then
    s.sump.nextSeq + u32 (s.sump.queued.dropLast.foldl (fun n q => n + 1 + b2n q.2.isSome) 0)
  else
    match assocGet r.code s.sump.lastRec with
    | some (l, _) => l.seq
    | none => s.sump.nextSeq

/-- Write a record; while a microcode swap runs it is queued (R425). DEDUCED (log entry 101). -/
def sumpWrite2 (s : State) (r : SumpRec) (c : Option SumpRec) : State :=
  if s.swapping then { s with sump := { s.sump with queued := s.sump.queued ++ [(r, c)] } }
  else sumpNow s r c

/-- Write a record without a continuation. -/
def sump (s : State) (code sev kind obj plane contrib detail : Nat) (ctx : U64) : State :=
  sumpWrite2 s (sumpRec code sev kind obj plane contrib detail ctx) none

/-- E_ACCESS_CONFLICT naming an object and the losing path (R370): 1 register port, 2 in-band, 3 I3C, 4 tap, 5 engine. -/
def accessConflict (s : State) (path idx sub : Nat) : State :=
  sump s 0x0018 0 6 0 0xFF 0xFFFFFF path (u64 (idx * 2 ^ 48 + sub * 2 ^ 40))

/-- The path number of R387. -/
def pathNo : Path → Nat
  | .regPort => 1
  | .inBand _ => 2
  | .i3c => 3

/-! ### The flag master and its mirrors (R194 to R197) -/

/-- The flags with flag `f` at `v`. -/
def flagPut (fl : BitVec 4096) (f : Nat) (v : Bool) : BitVec 4096 :=
  if v then fl ||| ((1 : BitVec 4096) <<< f) else fl &&& ~~~((1 : BitVec 4096) <<< f)

/-- A SET or CLEAR at the master, broadcast to every mirror; a mirror has taken it when the command ends (R197, log entry 8). -/
def flagOp (s : State) (f : Nat) (v : Bool) : State :=
  { s with flags := flagPut s.flags f v, taps := s.taps.map fun t => { t with mirror := flagPut t.mirror f v } }

/-- All 4096 flags written at once (RESTORE_FLAGS, a codeword loss, a reset). DESIGN CHOICE (log entry 8). -/
def flagsWrite (s : State) (v : BitVec 4096) : State :=
  { s with flags := v, taps := s.taps.map fun t => { t with mirror := v } }

/-! ### Configuration in force (R399 to R402) -/

/-- A span object: k in [28:24], base in [23:0]. -/
def spanOf (v : Nat) : Span := ⟨bitsOf v 23 0, bitsOf v 28 24⟩

/-- One past the last index of a span. -/
def spanStop (x : Span) : Nat := x.base + 2 ^ x.k

/-- Whether the index lies in the span. -/
def spanHas (x : Span) (i : Nat) : Bool := x.base ≤ i && i < x.base + 2 ^ x.k

/-- Where a quern input comes from. -/
inductive Source where
  | none | tap (t : Nat) | lattice (p : Nat) | adit (a : Nat) | quern (q : Nat)
  deriving DecidableEq, Repr

/-- A present input of a quern as configured in force (R113, R402). -/
structure InCfg where
  input : Nat
  src : Source
  beyondAdit : Bool
  span : Span
  occ : Nat
  rank : Nat
  deriving DecidableEq, Repr

/-- Where a quern sends. -/
inductive QOut where
  | none | lattice (p : Nat) | adit (a : Nat) | quern (q input : Nat) | stage
  deriving DecidableEq, Repr

/-- The source that the top bits of a Q_IN object name. -/
def sourceOf (v : Nat) : Source :=
  let n := bitsOf v 59 52
  match bitsOf v 63 60 with
  | 1 => .tap n | 2 => .lattice n | 3 => .adit n | 4 => .quern n | _ => .none

/-- Input `i` of quern `q`, from the objects that `get` reads. -/
def inCfg (get : Nat → Nat → Nat) (q i : Nat) : InCfg :=
  let v := get (0x2240 + q) (0x10 + i)
  let o := get (0x2240 + q) (0x20 + i)
  { input := i, src := sourceOf v, beyondAdit := bitOf v 51, span := spanOf v
    occ := bitsOf o 63 32, rank := bitsOf o 31 0 }

/-- The present inputs of quern position `q`, ascending, from the objects that `get` reads. -/
def inputsFrom (get : Nat → Nat → Nat) (q : Nat) : List InCfg :=
  ((List.range 16).map fun i => inCfg get q i).filter fun c => c.src != .none

/-- The present inputs in force. -/
def inputsOf (s : State) (q : Nat) : List InCfg := inputsFrom (cfg s) q

/-- The configuration of one input in force. -/
def inputAt (s : State) (q i : Nat) : InCfg := inCfg (cfg s) q i

/-- Whether `q` is a leaf quern (R18). -/
def isLeaf (s : State) (q : Nat) : Bool := q < s.params.leafQuerns

/-- Where quern `q` sends messages of `plane`: a leaf quern feeds input `q` of every plane quern (R19). -/
def quernOut (s : State) (q plane : Nat) : QOut :=
  if isLeaf s q then .quern (s.params.leafQuerns + plane) q
  else
    let v := cfg s (0x2240 + q) 0x02
    let n := bitsOf v 7 0
    match bitsOf v 15 8 with
    | 1 => .lattice n
    | 2 => .adit n
    | 3 =>
      match (inputsOf s n).find? fun c => c.src == .quern q with
      | some c => .quern n c.input
      | none => .none
    | 4 => .stage
    | _ => .none

/-- Whether `q` is the root quern of `plane` (R13). -/
def isRoot (s : State) (q plane : Nat) : Bool :=
  cfg s (0x2210 + plane) 0x02 == 1 && cfg s (0x2210 + plane) 0x03 == q && !isLeaf s q

/-- The output span of quern `q` in force. -/
def outSpan (s : State) (q : Nat) : Span := spanOf (cfg s (0x2240 + q) 0x03)

/-- The planes that quern `q` works on. -/
def planesOf (s : State) (q : Nat) : List Nat :=
  if isLeaf s q then (List.range s.params.planes).filter fun k => cfg s (0x2210 + k) 0x01 == 1
  else
    let k := cfg s (0x2240 + q) 0x01
    if k < s.params.planes && cfg s (0x2210 + k) 0x01 == 1 then [k] else []

/-- The active planes of the instance in force, ascending (R119). -/
def activePlanes (s : State) : List Nat :=
  (List.range s.params.planes).filter fun k => cfg s (0x2210 + k) 0x01 == 1

/-- The merge plane M (R177): the lowest active plane. -/
def mergePlane (s : State) : Nat := (activePlanes s).headD 0

/-- The size of the plane's occupied index set: 0 means 2^24 (R401). -/
def occupiedSize (s : State) (plane : Nat) : Nat :=
  let n := cfg s (0x2210 + plane) 0x06 % 2 ^ 24
  if n = 0 then 2 ^ 24 else n

/-- CARRIER in force (R177). -/
def carrierOf (s : State) (plane : Nat) : Nat := cfg s (0x2210 + plane) 0x07 % 2 ^ 24

/-- The tree epoch in force on a plane (R276). -/
def epochOf (s : State) (plane : Nat) : Nat := odGet s (0x2210 + plane) 0x08

/-- STATE of a plane (R401): 0 inactive, 1 active, 2 draining, 3 drained. -/
def planeState (s : State) (plane : Nat) : Nat := odGet s (0x2210 + plane) 0x09

/-- The parent port of a plane in force, if any. -/
def parentPort (s : State) (plane : Nat) : Option PortRef :=
  let v := cfg s (0x2210 + plane) 0x04
  let n := bitsOf v 7 0
  match bitsOf v 15 8 with
  | 1 => some (.lattice n)
  | 2 => some (.adit n)
  | _ => none

/-- The inputs of this instance that a port feeds on a plane: quern and input. -/
def inputsFedBy (s : State) (p : PortRef) (plane : Nat) : List (Nat × InCfg) :=
  let src : Source := match p with | .lattice n => .lattice n | .adit n => .adit n
  (List.range s.params.positions).flatMap fun q =>
    if isLeaf s q || cfg s (0x2240 + q) 0x01 != plane then []
    else ((inputsOf s q).filter fun c => c.src == src).map fun c => (q, c)

/-- The quern whose output goes to the port on the plane. -/
def outQuernOf (s : State) (p : PortRef) (plane : Nat) : Option Nat :=
  (List.range s.params.positions).find? fun q =>
    !isLeaf s q && cfg s (0x2240 + q) 0x01 == plane &&
      (match quernOut s q plane, p with
       | .lattice n, .lattice m => n == m
       | .adit n, .adit m => n == m
       | _, _ => false)

/-- Whether the epoch in force configures the plane on the port. -/
def portHasPlane (s : State) (p : PortRef) (plane : Nat) : Bool :=
  cfg s (0x2210 + plane) 0x01 == 1 &&
    (parentPort s plane == some p || !(inputsFedBy s p plane).isEmpty)

/-- The planes that the epoch in force configures on a port. -/
def portPlanes (s : State) (p : PortRef) : List Nat :=
  (List.range s.params.planes).filter fun k => portHasPlane s p k

/-- STRICT in force. -/
def strictOn (s : State) : Bool := odGet s 0x2000 0x02 == 1

/-- L of R100: 64 with STRICT, else the lane count of the profile in force (R410). -/
def statLanes (s : State) : Nat :=
  if strictOn s then 64 else
    match odGet s 0x7100 0x02 with
    | 1 => 32
    | 2 => 16
    | _ => 64

/-- The seed pair `n` in force (R310). -/
def seedPair (s : State) (n : Nat) : U64 × U64 :=
  (u64 (odGet s 0x5001 (2 * n + 1)), u64 (odGet s 0x5001 (2 * n + 2)))

end Sys2Proof.Machine
end

