-- ==== Sys2Proof/Machine/Operands.lean ====
section
/-! DEFINITION. The operands of commands: descriptor fields (R105 to R108), striping (R119), segments (R110),
elements in memory (R32 to R34) and the agreement set (R131, R263). -/

namespace Sys2Proof

open Sys2Proof.Machine

/-! ### Descriptor fields (R105 to R108) -/

def Desc.op (d : Desc) : Nat := fieldOf d.w0 63 56
def Desc.func (d : Desc) : Nat := fieldOf d.w0 55 52
def Desc.disc (d : Desc) : Nat := fieldOf d.w0 51 48
def Desc.fmtIn (d : Desc) : Nat := fieldOf d.w0 47 44
def Desc.fmtOut (d : Desc) : Nat := fieldOf d.w0 43 40
def Desc.round (d : Desc) : Nat := fieldOf d.w0 39 36
def Desc.seedSel (d : Desc) : Nat := fieldOf d.w0 35 32
def Desc.bucket (d : Desc) : U32 := u32 (fieldOf d.w0 31 0)
def Desc.step (d : Desc) : U64 := d.w1
def Desc.count (d : Desc) : Nat := fieldOf d.w2 63 32
def Desc.anchor (d : Desc) : Int := signedOf (fieldOf d.w2 31 16) 16
def Desc.flags (d : Desc) : Nat := fieldOf d.w2 15 0
def Desc.src (d : Desc) : Nat := d.w3.toNat
def Desc.dst (d : Desc) : Nat := d.w4.toNat
/-- CONTRIB_TOTAL as written: 0 stands for 2^24. -/
def Desc.totalField (d : Desc) : Nat := fieldOf d.w5 63 40
def Desc.total (d : Desc) : Nat := if d.totalField = 0 then 2 ^ 24 else d.totalField
def Desc.contrib (d : Desc) : Nat := fieldOf d.w5 39 16
def Desc.tailFlag (d : Desc) : Nat := fieldOf d.w5 15 4
def Desc.tailAction (d : Desc) : Nat := fieldOf d.w5 3 0
def Desc.rows (d : Desc) : Nat := fieldOf d.w6 63 32
def Desc.cols (d : Desc) : Nat := fieldOf d.w6 31 0
/-- TARGET or SOURCE (R108). -/
def Desc.target (d : Desc) : Nat := fieldOf d.w6 23 0
def Desc.partField (d : Desc) : Nat := fieldOf d.w6 31 0
def Desc.sched (d : Desc) : Nat := fieldOf d.w7 63 16
def Desc.prov (d : Desc) : Nat := fieldOf d.w7 15 0

def Desc.frozen (d : Desc) : Bool := bitOf d.flags 0
def Desc.tailEn (d : Desc) : Bool := bitOf d.flags 1
def Desc.digestEn (d : Desc) : Bool := bitOf d.flags 2
def Desc.auto (d : Desc) : Bool := bitOf d.flags 3
def Desc.drainSrc (d : Desc) : Bool := bitOf d.flags 4
def Desc.handover (d : Desc) : Bool := bitOf d.flags 5
def Desc.lastInStep (d : Desc) : Bool := bitOf d.flags 6
def Desc.orderCq (d : Desc) : Bool := bitOf d.flags 7
def Desc.srRound (d : Desc) : Bool := bitOf d.round 2
def Desc.outRnd (d : Desc) : Nat := d.round % 4

/-- The words in order. -/
def Desc.words (d : Desc) : List U64 := [d.w0, d.w1, d.w2, d.w3, d.w4, d.w5, d.w6, d.w7]

/-- The descriptor of eight words. -/
def Desc.ofWords (w : Nat → U64) : Desc := ⟨w 0, w 1, w 2, w 3, w 4, w 5, w 6, w 7⟩

/-- Same (BUCKET, STEP) (R109). -/
def Desc.sameKey (a b : Desc) : Bool := a.bucket == b.bucket && a.step == b.step

/-- REDUCE to ALLGATHER: a data operation of R212. -/
def Desc.isData (d : Desc) : Bool := 1 ≤ d.op && d.op ≤ 5
/-- A plane operation: REDUCE to STEP_BARRIER (R103). -/
def Desc.isPlane (d : Desc) : Bool := 1 ≤ d.op && d.op ≤ 7
/-- ARGMAX or ARGMIN. -/
def Desc.isArg (d : Desc) : Bool := d.func == 6 || d.func == 7
/-- NORM2 or FACTOR. -/
def Desc.hasStats (d : Desc) : Bool := d.func == 2 || d.func == 3
/-- EXACT64 or EXACT128. -/
def Desc.exact (d : Desc) : Bool := d.disc == 1 || d.disc == 2
/-- ORDERED or ORDERED_SR. -/
def Desc.ordered (d : Desc) : Bool := d.disc == 3 || d.disc == 4

/-- Elements per contributor portion (R108, R112). -/
def Desc.part (d : Desc) : Nat := if d.func == 3 then d.rows / d.total * d.cols else d.partField

/-! ### The agreement set (R131, R263) -/

/-- The agreement block of a descriptor at the anchor in force. The block holds that anchor in its ANCHOR field once a
pre-pass or a retry has set one, which is how a plane root comes to know it. DESIGN CHOICE (log entry 11). -/
def Desc.agreement (d : Desc) (anchor : Int) : Agreement :=
  { w0 := u64 (fieldOf d.w0 63 32 * 2 ^ 32 + d.count)
    w1 := u64 (patternOf anchor 16 * 2 ^ 48 + (d.flags &&& 0x004D) * 2 ^ 32 + d.totalField)
    w2 := d.w6 }

/-- A descriptor that has the fields of an agreement set: what a quern knows of a bucket. -/
def Agreement.desc (a : Agreement) (bucket : U32) (step : U64) : Desc :=
  { w0 := u64 (fieldOf a.w0 63 32 * 2 ^ 32 + bucket.toNat)
    w1 := step
    w2 := u64 (fieldOf a.w0 31 0 * 2 ^ 32 + fieldOf a.w1 63 48 * 2 ^ 16 + fieldOf a.w1 47 32)
    w3 := 0, w4 := 0
    w5 := u64 (fieldOf a.w1 23 0 * 2 ^ 40)
    w6 := a.w2
    w7 := 0 }

/-- FROZEN of an agreement set. -/
def Agreement.frozen (a : Agreement) : Bool := bitOf (fieldOf a.w1 47 32) 0

/-! ### Message fields -/

/-- The key of a message: bucket, step and plane. -/
def Message.keyIs (m : Message) (b : U32) (st : U64) (plane : Nat) : Bool :=
  m.bucket == b && m.step == st && m.plane == plane

/-- The lanes of a body. -/
def Body.laneList : Body → List Lane
  | .lanes ls _ => ls
  | _ => []

/-- The block scales of a body. -/
def Body.scaleList : Body → List Int
  | .lanes _ sc => sc
  | .scaleVec xs => xs
  | _ => []

end Sys2Proof

namespace Sys2Proof.Machine

/-! ### Striping (R119, R110) -/

/-- Elements per full segment of a bucket (R7, R110). BROADCAST and ALLGATHER take the lane kind of their format's width. -/
def segElems (d : Desc) : Nat :=
  if d.disc == 1 then 8192
  else if d.disc == 2 then 4096
  else if d.op == 4 || d.op == 5 then (if d.fmtIn == 13 then 8192 else if d.fmtIn == 14 then 4096 else 16384)
  else 16384

/-- The chunk of rank `i` among `p` active planes: first element and end (R119). A frozen bucket moves no element (R124).
DEDUCED (log entry 66). -/
def chunkOf (d : Desc) (p i : Nat) : Nat × Nat :=
  if d.frozen then (0, 0)
  else if d.func == 3 then
    let rc := ceilDiv d.rows p
    let a := min (i * rc) d.rows
    let b := min ((i + 1) * rc) d.rows
    (a * d.cols, b * d.cols)
  else
    let c := roundUp (ceilDiv d.count p) 64
    (min (i * c) d.count, min ((i + 1) * c) d.count)

/-- Rank of a plane among the active planes (R119). -/
def planeRank (planes : List Nat) (k : Nat) : Nat := planes.idxOf k

/-- The chunk of plane `k`. -/
def chunkAt (d : Desc) (planes : List Nat) (k : Nat) : Nat × Nat := chunkOf d planes.length (planeRank planes k)

/-- Segments of a chunk: one empty segment for an empty chunk (R110). -/
def segCount (d : Desc) (c : Nat × Nat) : Nat := max 1 (ceilDiv (c.2 - c.1) (segElems d))

/-- Segment `s` of a chunk: first element and end. -/
def segOf (d : Desc) (c : Nat × Nat) (s : Nat) : Nat × Nat :=
  (min (c.1 + s * segElems d) c.2, min (c.1 + (s + 1) * segElems d) c.2)

/-! ### Elements in memory (R32 to R34) -/

/-- The code of element `i` of an MX block whose bytes are `bs` (R34). -/
def mxCode (f : Nat) (bs : List Byte) (i : Nat) : Nat := (bytesToNat bs >>> (fmtBits f * i)) % 2 ^ fmtBits f

/-- Where the scale array of an MX region of `n` elements starts (R33). -/
def mxScaleOffset (f n : Nat) : Nat := roundUp (ceilDiv n 32 * 4 * fmtBits f) 64

/-- Element `e` of a region of `n` elements of format `f`: its pattern and its block's scale byte. -/
def elemAt (f n : Nat) (region : List Byte) (e : Nat) : Nat × Nat :=
  if isMx f then
    let blk := (region.drop (e / 32 * (4 * fmtBits f))).take (4 * fmtBits f)
    (mxCode f blk (e % 32), ((region.drop (mxScaleOffset f n + e / 32)).headD 0).toNat)
  else
    let w := fmtBits f / 8
    (bytesToNat ((region.drop (e * w)).take w), 0)

/-- The bytes of one MX block of at most 32 codes; unused elements are written as 0 (R33, R34). -/
def mxBlockBytes (f : Nat) (codes : List Nat) : List Byte :=
  natToBytes (codes.zipIdx.foldl (fun acc c => acc + c.1 % 2 ^ fmtBits f * 2 ^ (fmtBits f * c.2)) 0) (4 * fmtBits f)

/-- Lists of 32. -/
def blocksOf {α : Type} (fuel : Nat) (l : List α) : List (List α) :=
  match fuel with
  | 0 => []
  | fuel + 1 => if l.isEmpty then [] else l.take 32 :: blocksOf fuel (l.drop 32)

/-- Blocks of 32 of a list. -/
def blocks32 {α : Type} (l : List α) : List (List α) := blocksOf l.length l

/-- The byte runs that write elements `first`, `first + 1`, ... of a region of `n` elements at `base`: address and bytes. `codes`
are patterns of format `f`, `scales` the scale bytes of the MX blocks, the first element being at a block's start. -/
def elemRuns (f n base first : Nat) (codes scales : List Nat) : List (Nat × List Byte) :=
  if codes.isEmpty then []
  else if isMx f then
    [(base + first / 32 * (4 * fmtBits f), (blocks32 codes).flatMap fun b => mxBlockBytes f b),
     (base + mxScaleOffset f n + first / 32, scales.map fun x => BitVec.ofNat 8 x)]
  else
    let w := fmtBits f / 8
    [(base + first * w, codes.flatMap fun c => natToBytes c w)]

/-! ### What a descriptor reads and writes (R111, R115, R118) -/

/-- Elements that the tap reads as its source, at contributor `c` (R111, R157). -/
def srcElems (d : Desc) (c : Nat) : Nat :=
  if d.op == 5 then d.part
  else if d.op == 4 then (if d.target == c then d.count else 0)
  else if d.op == 6 || d.op == 7 || d.op == 9 then 0
  else d.count

/-- Elements written at DST at contributor `c`, but for the 16-byte entry of R115 (R111). -/
def dstElems (d : Desc) (c : Nat) : Nat :=
  match d.op with
  | 1 => if d.target == c then d.count else 0
  | 2 => d.count
  | 3 => d.part
  | 4 => d.count
  | 5 => d.count
  | _ => 0

/-- Whether the contributor receives a result at DST. -/
def takesResult (d : Desc) (c : Nat) : Bool :=
  match d.op with
  | 1 => d.target == c
  | 2 => true
  | 3 => true
  | 4 => true
  | 5 => true
  | _ => false

/-- Bytes of the statistics area (R118). -/
def statsBytes (d : Desc) : Nat :=
  if d.func == 2 then 64
  else if d.func == 3 then
    64 + roundUp (4 * ((if d.op == 3 then d.rows / d.total else d.rows) + d.cols)) 64
  else 0

/-- Bytes of the result at DST, without the statistics area. -/
def resultBytes (d : Desc) (c : Nat) : Nat :=
  if d.isArg then (if takesResult d c then 16 else 0) else fmtSize d.fmtOut (dstElems d c)

/-- Offset of the statistics area (R118). -/
def statsOffset (d : Desc) (c : Nat) : Nat := roundUp (resultBytes d c) 64

/-- Bytes from DST that the descriptor may write (R154). -/
def dstBytes (d : Desc) (c : Nat) : Nat :=
  if d.hasStats && takesResult d c then statsOffset d c + statsBytes d else resultBytes d c

/-- Bytes of the source region: COUNT or PART elements of FMT_IN. -/
def srcBytes (d : Desc) (c : Nat) : Nat := fmtSize d.fmtIn (srcElems d c)

/-- The part of the bucket that the contributor of rank `r` receives: first element and end (R112 to R114). -/
def ownRange (d : Desc) (r : Nat) : Nat × Nat :=
  if d.op == 3 then (r * d.part, r * d.part + d.part) else (0, d.count)

/-- The rows that a participant of rank `r` receives: first row and end (R178, R183). -/
def ownRows (d : Desc) (r : Nat) : Nat × Nat :=
  if d.op == 3 then (r * (d.rows / d.total), (r + 1) * (d.rows / d.total)) else (0, d.rows)

end Sys2Proof.Machine
end

