-- ==== Sys2Proof/Machine/Combine.lean ====
section
/-! DEFINITION. Combining: what a tap contributes (R46, R82, R114), the canonical tree (R73), the combination of two
nodes in each discipline and function (R68, R78, R83, R95 to R97), the digests and the root's conversion (R51 to R59, R326). -/

namespace Sys2Proof.Machine

/-- What an input, a node or an output carries for one segment. `doomed` is the E_ANCHOR_RETRY of R86, `sat` the
saturation of R91. -/
structure Payload where
  first : Nat := 0
  lanes : List Lane := []
  scales : List Int := []
  doomed : Bool := false
  sat : Bool := false
  deriving DecidableEq, Repr

/-- The element type of a bucket's transport format (R81). -/
def transportTy (d : Desc) : FloatTy := fmtTy d.fmtOut

/-- The rounding that Q_RND selects, with the mixer value of its purpose (R46, R82, R83). -/
def qRnd (d : Desc) (key : MixKey) (purpose node aux element : Nat) : Rnd :=
  if d.srRound then .sr (mixAt key purpose node aux element) else .rne

/-- The rounding that OUT_RND selects (R54, R57). -/
def outRnd (d : Desc) (key : MixKey) (element : Nat) : Rnd :=
  match d.outRnd with
  | 0 => .rne
  | 1 => .sr (mixAt key 2 0xFFFFFF 0 element)
  | _ => .rz

/-- The mixer key of a bucket at an instance: the seed pair in force that SEED_SEL selects (R60). -/
def bucketKey (s : State) (d : Desc) : MixKey :=
  let p := seedPair s d.seedSel
  { k0 := p.1, k1 := p.2, step := d.step, bucket := d.bucket }

/-! ### SCALED blocks (R82, R83, R86, R91) -/

/-- A block quantised at scale `x`: lanes as binary32 patterns. -/
def quantBlock (t : FloatTy) (x : Int) (ds : List (Dy × Rnd)) : List Nat :=
  ds.map fun e => transportF32 t e.2 x e.1

/-- Whether some element of the block rounds above L at scale `x`. -/
def blockOver (t : FloatTy) (x : Int) (ds : List (Dy × Rnd)) : Bool :=
  ds.any fun e => transportOver t e.2 x e.1

/-- A block in attempt 0: quantised at `x`, or at the raised scale of R86; with the scale, and whether it would pass the limit, at which
the scale carried stays (R84). -/
def growBlock (t : FloatTy) (x : Int) (ds : List (Dy × Rnd)) : List Nat × Int × Bool :=
  if blockOver t x ds then
    let x' := (amaxOf (ds.map Prod.fst)).exp - t.emax + 1
    (quantBlock t (min x' (scaleLimit t)) ds, min x' (scaleLimit t), decide (scaleLimit t < x'))
  else (quantBlock t (min x (scaleLimit t)) ds, min x (scaleLimit t), decide (scaleLimit t < x))

/-! ### ARGMAX and ARGMIN entries (R96, R115) -/

/-- The entry of the empty candidate set. -/
def emptyEntry : List Nat := [0, 0xFFFFFF, 0xFFFFFFFF, 1]

/-- Order of binary32 patterns as sign-magnitude integers: -0 lies just below +0. -/
def f32Order (p : Nat) : Int := if p < 2 ^ 31 then (p : Int) else -((p : Int) - 2 ^ 31) - 1

/-- Whether a binary32 pattern is a NaN. -/
def isNan32 (p : Nat) : Bool := 0x7F800000 < p % 2 ^ 31

/-- The rank of a VALUE word under R96: NaN highest, the zeros equal. -/
def argRank (d : Desc) (v : Nat) : Int :=
  if d.fmtIn == 11 then signedOf v 32
  else if isNan32 v then 2 ^ 32
  else if v == 0x80000000 then 0
  else if v < 2 ^ 31 then (v : Int) else -((v : Int) - 2 ^ 31)

/-- Whether entry `a` wins over entry `b` (R96). -/
def entryWins (d : Desc) (a b : List Nat) : Bool :=
  if a.getD 3 1 == 1 then false
  else if b.getD 3 1 == 1 then true
  else
    let ra := argRank d (a.getD 0 0)
    let rb := argRank d (b.getD 0 0)
    if ra != rb then (if d.func == 6 then rb < ra else ra < rb)
    else if a.getD 1 0 != b.getD 1 0 then a.getD 1 0 < b.getD 1 0
    else a.getD 2 0 < b.getD 2 0

/-- The winner of two entries. DEDUCED (log entry 10). -/
def betterEntry (d : Desc) (a b : List Nat) : List Nat := if entryWins d b a then b else a

/-- An entry as four U32 lanes (R115). DEDUCED (log entry 10). -/
def entryLanes (e : List Nat) : List Lane := e.map fun (v : Nat) => { val := (v : Int) }

/-- The entry in four U32 lanes; the empty set's entry where there are none. DEDUCED (log entry 10). -/
def lanesEntry (ls : List Lane) : List Nat :=
  if ls.isEmpty then emptyEntry else ls.map fun l => l.val.toNat

/-! ### The contribution of a tap (R46, R82, R85, R114, R39) -/

/-- The elements of [a, b) that the contributor sends (R114, R124). -/
def sentRange (d : Desc) (contrib rank : Nat) (r : Nat × Nat) : Nat × Nat :=
  if d.frozen then (r.1, r.1)
  else if d.op == 4 then (if d.target == contrib then r else (r.1, r.1))
  else if d.op == 5 then
    let a := max r.1 (rank * d.part)
    let b := min r.2 (rank * d.part + d.part)
    if a < b then (a, b) else (r.1, r.1)
  else r

/-- Bucket element `e` of the contributor's source region: pattern and scale byte. -/
def sourceElem (d : Desc) (contrib rank : Nat) (region : List Byte) (e : Nat) : Nat × Nat :=
  elemAt d.fmtIn (srcElems d contrib) region (if d.op == 5 then e - rank * d.part else e)

/-- Bucket element `e` of the source as a value, read against ANCHOR (R37, R45). -/
def sourceVal (d : Desc) (contrib rank : Nat) (region : List Byte) (e : Nat) : Val :=
  let p := sourceElem d contrib rank region e
  readVal d.fmtIn d.anchor p.2 p.1

/-- Elements a to b - 1. -/
def elemsOf (r : Nat × Nat) : List Nat := (List.range (r.2 - r.1)).map fun i => r.1 + i

/-- The value pattern of MAX, MIN, ARGMAX and ARGMIN: INT32 as it is, else widened to binary32 with the canonical NaN. -/
def orderPattern (d : Desc) (p : Nat) (v : Val) : Nat := if d.fmtIn == 11 then p else toF32 .rne v

/-- The exponent of a value as the INT32 of MAXEXP (R39). -/
def exponentPattern (v : Val) : Nat :=
  match v with
  | .fin x => if x.m == 0 then 0x80000000 else patternOf x.exp 32
  | _ => 0x80000000

/-- The candidates of a range ranked at the tap (R115). -/
def argOf (d : Desc) (contrib rank : Nat) (region : List Byte) (r : Nat × Nat) : List Nat :=
  (elemsOf r).foldl (fun acc e =>
    let p := sourceElem d contrib rank region e
    betterEntry d acc [orderPattern d p.1 (readVal d.fmtIn d.anchor p.2 p.1), contrib, e, 0]) emptyEntry

/-- One MX block's scale byte as the transported scale: 255 travels as 128 (R36, R267). -/
def movedScale (b : Nat) : Int := (b : Int) - 127

/-- The SCALED contribution of elements `es` at the block scales `xs`, block by block. -/
def scaledBlocks (d : Desc) (key : MixKey) (contrib attempt : Nat) (vals : Nat → Val) :
    List Nat → List Int → List Lane × List Int × Bool
  | [], _ => ([], [], false)
  | e :: es, xs => scaledGo ((e :: es).length) (e :: es) xs
where
  /-- Blocks of 32 elements, as many as `fuel` allows. -/
  scaledGo : Nat → List Nat → List Int → List Lane × List Int × Bool
    | 0, _, _ => ([], [], false)
    | fuel + 1, es, xs =>
      if es.isEmpty then ([], [], false)
      else
        let t := transportTy d
        let blk := es.take 32
        let x := xs.headD 0
        let ds := blk.map fun e => ((vals e).finite, qRnd d key 1 contrib 0 e)
        let (ps, x', bad) :=
          if attempt == 0 then growBlock t x ds else (quantBlock t x ds, x, blockOver t x ds)
        let ls := (blk.zip ps).map fun (e, p) => ({ val := (p : Int), side := (vals e).side } : Lane)
        let (ls', xs', bad') := scaledGo fuel (es.drop 32) (xs.drop 1)
        (ls ++ ls', x' :: xs', bad || bad')

/-- The payload of the contributor for the element range `r`. In SCALED, `scales` holds a scale for each block of it. `doomed`
in attempt 1 is the second overflow of R91. -/
def contribution (d : Desc) (key : MixKey) (contrib rank attempt : Nat) (anchor : Int) (scales : List Int)
    (region : List Byte) (range : Nat × Nat) : Payload :=
  let r := sentRange d contrib rank range
  let es := elemsOf r
  let elem := sourceElem d contrib rank region
  let val := sourceVal d contrib rank region
  if d.isArg then
    { first := range.1, lanes := if es.isEmpty then [] else entryLanes (argOf d contrib rank region r) }
  else if d.exact then
    { first := r.1
      lanes := es.map fun e =>
        let v := val e
        { val := quantise (d.disc == 2) anchor (qRnd d key 1 contrib 0 e) v, side := v.side }
      doomed := attempt == 1 && es.any fun e => isOvershot anchor (val e) }
  else if d.ordered then
    { first := r.1
      lanes := es.map fun e => { val := (toF32 .rne (.fin (val e).finite) : Int), side := (val e).side } }
  else if d.disc == 5 then
    let (ls, xs, bad) := scaledBlocks d key contrib attempt val es scales
    { first := r.1, lanes := ls, scales := xs, doomed := bad }
  else if d.func == 4 || d.func == 5 then
    { first := r.1, lanes := es.map fun e => { val := (orderPattern d (elem e).1 (val e) : Int) } }
  else if d.func == 11 then
    { first := r.1, lanes := es.map fun e => { val := (exponentPattern (val e) : Int) } }
  else
    { first := r.1
      lanes := es.map fun e => { val := ((elem e).1 : Int) }
      scales := if isMx d.fmtIn then ((blocks32 es).map fun b => movedScale (elem (b.headD 0)).2) else [] }

/-- The overflow bit and chunk MAXEXP that the tap contributes for a chunk (R85). -/
def chunkMeasure (d : Desc) (contrib rank : Nat) (anchor : Int) (region : List Byte) (range : Nat × Nat) : Bool × Int :=
  if d.exact && !d.frozen then
    let vs := (elemsOf range).map (sourceVal d contrib rank region)
    (vs.any (isOvershot anchor), maxExpOf vs)
  else (false, -32768)

/-- The pre-pass exponents of a chunk (R94): one for EXACT, one for each block in SCALED. -/
def prepassOf (d : Desc) (contrib rank : Nat) (region : List Byte) (range : Nat × Nat) : List Int :=
  let val := sourceVal d contrib rank region
  if d.exact then [maxExpOf ((elemsOf range).map val)]
  else (blocks32 (elemsOf range)).map fun b => maxExpOf (b.map val)

/-- The block scale that the plane root answers to a pre-pass exponent (R94). -/
def prepassScale (d : Desc) (e : Int) : Int := max (-127) (e - (transportTy d).emax + 1)

/-! ### The canonical tree (R73) -/

/-- The value of the canonical node (b, k) over the non-empty inputs below it, and `none` where there is none. -/
def nodeVal {α : Type} (comb : α → α → Nat → Nat → α) : Nat → Nat → List (Nat × α) → Option α
  | _, _, [] => none
  | _, _, [x] => some x.2
  | 0, _, x :: _ :: _ => some x.2
  | k + 1, b, x :: y :: r =>
    let m := b + 2 ^ k
    let ins := x :: y :: r
    match nodeVal comb k b (ins.filter fun i => i.1 < m), nodeVal comb k m (ins.filter fun i => m ≤ i.1) with
    | some lo, some hi => some (comb lo hi b (k + 1))
    | some lo, none => some lo
    | none, some hi => some hi
    | none, none => none

/-! ### Combining two nodes -/

/-- Two lanes under FP32 addition at node (b, k) (R78, R80). -/
def orderedLane (d : Desc) (key : MixKey) (b k e : Nat) (x y : Lane) : Lane :=
  let rnd := if d.disc == 4 then Rnd.sr (mixAt key 3 b k e) else .rne
  { val := (addF32 rnd x.val.toNat y.val.toNat : Int), side := sideOr x.side y.side }

/-- The larger or smaller of two FP32 patterns (R95). -/
def orderLane (d : Desc) (x y : Lane) : Lane :=
  let a := x.val.toNat
  let b := y.val.toNat
  let pick := fun (p q : Int) => if d.func == 4 then decide (p < q) else decide (q < p)
  if d.fmtIn == 11 then (if pick (signedOf a 32) (signedOf b 32) then y else x)
  else if isNan32 a then { val := 0x7FC00000 }
  else if isNan32 b then { val := 0x7FC00000 }
  else if pick (f32Order a) (f32Order b) then y else x

/-- Two lanes of an order-free function without a discipline (R95, R97). -/
def freeLane (d : Desc) (x y : Lane) : Lane :=
  match d.func with
  | 4 => orderLane d x y
  | 5 => orderLane d x y
  | 8 => { val := (x.val.toNat &&& y.val.toNat : Nat) }
  | 9 => { val := (x.val.toNat ||| y.val.toNat : Nat) }
  | 10 => { val := (x.val.toNat ^^^ y.val.toNat : Nat) }
  | _ => if signedOf x.val.toNat 32 < signedOf y.val.toNat 32 then y else x

/-- Lane by lane; a segment without elements leaves the other as it is. -/
def zipLanes (f : Nat → Lane → Lane → Lane) (first : Nat) : List Lane → List Lane → List Lane
  | [], ys => ys
  | xs, [] => xs
  | x :: xs, y :: ys => f first x y :: zipLanes f (first + 1) xs ys

/-- One SCALED block at node (b, k): the binary32 sums, re-quantised (R83, R86, R91). -/
def scaledNodeBlock (d : Desc) (key : MixKey) (b k attempt first : Nat) (x : Int) (xs ys : List Lane) :
    List Lane × Int × Bool × Bool :=
  let t := transportTy d
  let sums := (xs.zip ys).map fun p => ofF32 (addF32 .rne p.1.val.toNat p.2.val.toNat)
  let isInf := fun (v : Val) => match v with | .fin _ => false | _ => true
  let inf := sums.any isInf
  let ds := sums.zipIdx.map fun (v, i) => (v.finite, qRnd d key 4 b k (first + i))
  let side := (xs.zip ys).map fun p => sideOr p.1.side p.2.side
  if attempt == 0 then
    let (ps, x', bad) := growBlock t x ds
    ((ps.zip side).map fun (p, sd) => { val := (p : Int), side := sd }, x', bad || inf, false)
  else
    let top := fun (neg : Bool) => (toPattern tyFp32 .rne false ⟨neg, largestM t, largestE t + x⟩).1
    let ps := (sums.zip ds).map fun (v, e) =>
      match v with
      | .ninf => top true
      | .fin _ => transportF32 t e.2 x e.1
      | _ => top false
    ((ps.zip side).map fun (p, sd) => { val := (p : Int), side := sd }, x, false, inf || blockOver t x ds)

/-- SCALED payloads combined block by block; `fuel` bounds the number of blocks. -/
def scaledCombine (d : Desc) (key : MixKey) (b k attempt : Nat) :
    Nat → Nat → List Lane → List Lane → List Int → List Int → List Lane × List Int × Bool × Bool
  | 0, _, _, _, _, _ => ([], [], false, false)
  | fuel + 1, first, xs, ys, sx, sy =>
    if xs.isEmpty then ([], [], false, false)
    else
      let (ls, x, bad, sat) := scaledNodeBlock d key b k attempt first (max (sx.headD 0) (sy.headD 0)) (xs.take 32) (ys.take 32)
      let (ls', xs', bad', sat') := scaledCombine d key b k attempt fuel (first + 32) (xs.drop 32) (ys.drop 32) (sx.drop 1) (sy.drop 1)
      (ls ++ ls', x :: xs', bad || bad', sat || sat')

/-- The combination of two non-empty canonical children at node (b, k). -/
def combineAt (d : Desc) (key : MixKey) (attempt : Nat) (lo hi : Payload) (b k : Nat) : Payload :=
  let doomed := lo.doomed || hi.doomed
  let sat := lo.sat || hi.sat
  if lo.lanes.isEmpty then { hi with doomed := doomed, sat := sat }
  else if hi.lanes.isEmpty then { lo with doomed := doomed, sat := sat }
  else if d.isArg then
    { lo with lanes := entryLanes (betterEntry d (lanesEntry lo.lanes) (lanesEntry hi.lanes)) }
  else if d.exact then
    { lo with lanes := zipLanes (fun _ x y => { val := x.val + y.val, side := sideOr x.side y.side }) lo.first lo.lanes hi.lanes }
  else if d.ordered then
    { lo with lanes := zipLanes (fun e x y => orderedLane d key b k e x y) lo.first lo.lanes hi.lanes }
  else if d.disc == 5 then
    let (ls, xs, bad, st) := scaledCombine d key b k attempt lo.lanes.length lo.first lo.lanes hi.lanes lo.scales hi.scales
    { first := lo.first, lanes := ls, scales := xs, doomed := doomed || bad, sat := sat || st }
  else if d.op == 4 then lo
  else if d.op == 5 then { lo with lanes := lo.lanes ++ hi.lanes, scales := lo.scales ++ hi.scales }
  else { lo with lanes := zipLanes (fun _ x y => freeLane d x y) lo.first lo.lanes hi.lanes }

/-- What a quern with output span `out` makes of the segments of its inputs, each under its span's base (R74). -/
def combineAll (d : Desc) (key : MixKey) (attempt : Nat) (out : Span) (ins : List (Nat × Payload)) : Payload :=
  (nodeVal (combineAt d key attempt) out.k out.base ins).getD {}

/-! ### Digests (R326, R338) -/

/-- The digest of carried lanes at element indices from `first`: check digest in EXACT, else the lane patterns. -/
def laneDigest (d : Desc) (first : Nat) (ls : List Lane) : List Nat :=
  if d.exact then eddy first (ls.map fun l => eddyInt l.val)
  else if d.isArg then eddy 0 (ls.map fun l => l.val.toNat)
  else eddy first (ls.map fun l => l.val.toNat)

/-- The value that a pattern of format `f` has in a result digest (R326). -/
def patternValue (f p : Nat) : Nat := if f == 14 then p % eddyP else p

/-- The digest of result elements `codes` from `first` and, for an MX format, the scale bytes of their blocks, in a bucket or
source of `n` elements (R326). -/
def codesDigest (f n first : Nat) (codes scales : List Nat) : List Nat :=
  let e := eddy first (codes.map (patternValue f))
  if isMx f then eddyAdd e (eddy (n + first / 32) scales) else e

/-! ### The root's conversion (R51 to R59, R80, R95) -/

/-- A chunk as the root writes it: patterns of FMT_OUT, MX scale bytes, OUTPUT_RANGE. -/
structure Converted where
  codes : List Nat := []
  scales : List Nat := []
  range : Bool := false
  deriving DecidableEq, Repr

/-- The value of a combined lane (R40, R78, R82). -/
def laneVal (d : Desc) (anchor : Int) (l : Lane) : Val :=
  if d.exact then .fin ⟨l.val < 0, l.val.natAbs, anchor - (gridBits (d.disc == 2) : Int)⟩
  else if d.fmtIn == 11 && d.disc == 0 then .fin ⟨false, 0, 0⟩
  else ofF32 l.val.toNat

/-- A sinter result (R44, R59). -/
def sinterOut (f : Nat) (l : Lane) : Nat :=
  match sideVal l.side (.fin ⟨false, 0, 0⟩) with
  | .nan => nanPattern f
  | .pinf => infOut f false
  | .ninf => infOut f true
  | .fin _ => patternOf l.val (if f == 14 then 128 else 64)

/-- The MX blocks of a chunk from element `first`. -/
def convertMx (d : Desc) (key : MixKey) (anchor : Int) (keepZero : Bool) : Nat → Nat → List Lane → Converted
  | 0, _, _ => {}
  | fuel + 1, first, ls =>
    if ls.isEmpty then {}
    else
      let blk := ls.take 32
      let vs := blk.map fun l => sideVal l.side (laneVal d anchor l)
      let rnds := (List.range blk.length).map fun i => outRnd d key (first + i)
      let arose := blk.any fun l => !sideAny l.side && (match laneVal d anchor l with | .fin _ => false | _ => true)
      let (codes, sb, range) := mxBlock d.fmtOut rnds keepZero vs arose
      let rest := convertMx d key anchor keepZero fuel (first + 32) (ls.drop 32)
      { codes := codes ++ rest.codes, scales := sb :: rest.scales, range := range || rest.range }

/-- The chunk's lanes from element `first` converted to FMT_OUT. -/
def convertChunk (d : Desc) (key : MixKey) (anchor : Int) (first : Nat) (ls : List Lane) (scales : List Int) : Converted :=
  if d.op == 4 || d.op == 5 then
    { codes := ls.map fun l => l.val.toNat, scales := scales.map fun x => (x + 127).toNat }
  else if d.disc == 0 then
    if d.func == 4 || d.func == 5 then
      if d.fmtIn == 11 then { codes := ls.map fun l => l.val.toNat }
      else { codes := ls.map fun l => (convertElem d.fmtOut .rne true {} (ofF32 l.val.toNat)).1 }
    else { codes := ls.map fun l => l.val.toNat }
  else if isSinter d.fmtOut then { codes := ls.map (sinterOut d.fmtOut) }
  else if isMx d.fmtOut then convertMx d key anchor d.ordered ls.length first ls
  else
    let rs := ls.zipIdx.map fun (l, i) => convertElem d.fmtOut (outRnd d key (first + i)) d.ordered l.side (laneVal d anchor l)
    { codes := rs.map Prod.fst, range := rs.any Prod.snd }

end Sys2Proof.Machine
end

