-- ==== Sys2Proof/Machine/Statistics.lean ====
section
/-! DEFINITION. NORM2 and FACTOR statistics: accumulators, the tile order, the partial part, the merge and the
statistics area (R172 to R185, R99). -/

namespace Sys2Proof.Machine

/-! ### The exact pipeline (R174, R175, R179) -/

/-- A slot: accumulator in [639:0], sideband in [641:640] (R179). -/
abbrev Slot := Nat

/-- The accumulator of a slot. -/
def slotAcc (x : Slot) : Nat := bitsOf x 639 0
/-- The sideband of a slot: bit 0 NaN seen, bit 1 +inf seen. -/
def slotSide (x : Slot) : Nat := bitsOf x 641 640

/-- The square of a value in accumulator form (R174). -/
def squareSlot (v : Val) : Slot :=
  match v with
  | .fin d => (d.m * d.m) <<< (d.e + d.e + 320).toNat
  | .nan => 2 ^ 640
  | _ => 2 ^ 641

/-- A binary32 partial in accumulator form (R179). -/
def f32Slot (p : Nat) : Slot :=
  match ofF32 p with
  | .fin d => d.m <<< (d.e + 320).toNat
  | .nan => 2 ^ 640
  | _ => 2 ^ 641

/-- Exact sum of two slots: accumulators add, sidebands OR. -/
def slotAdd (a b : Slot) : Slot := slotAcc a + slotAcc b + (slotSide a ||| slotSide b) * 2 ^ 640

/-- The value of a final slot. -/
def slotVal (x : Slot) : Val :=
  if bitOf (slotSide x) 0 then .nan
  else if bitOf (slotSide x) 1 then .pinf
  else .fin ⟨false, slotAcc x, -320⟩

/-- A final statistic as binary32, and whether it set STATS_RANGE (R175). -/
def slotF32 (x : Slot) : Nat × Bool :=
  match slotVal x with
  | .fin d => toPattern tyFp32 .rne false d
  | v => (toF32 .rne v, false)

/-- A value as a binary64 pattern (R175, R176). -/
def valF64 (v : Val) : Nat :=
  match v with
  | .fin d => (toPattern tyFp64 .rne false d).1
  | .pinf => infOut 15 false
  | .ninf => infOut 15 true
  | .nan => nanPattern 15

/-! ### The tile order of ORDERED and ORDERED_SR (R99, R176) -/

/-- A binary32 running value with whether +inf arose from finite operands. -/
abbrev Run32 := Nat × Bool

/-- A sum as binary32, with the range mark. -/
def run32 (v : Val) (r : Bool) : Run32 :=
  let p := toF32 .rne v
  (p, r || (match v with | .fin _ => p == 0x7F800000 | _ => false))

/-- fma(g, g, lane). -/
def runFma (g : Val) (a : Run32) : Run32 := run32 (addVal (squareVal g) (ofF32 a.1)) a.2

/-- binary32 sum of two running values. -/
def runAdd (a b : Run32) : Run32 := run32 (addVal (ofF32 a.1) (ofF32 b.1)) (a.2 || b.2)

/-- Lists of `n`, as many as `fuel` allows. -/
def groupsOf {α : Type} (n : Nat) : Nat → List α → List (List α)
  | 0, _ => []
  | fuel + 1, l => if l.isEmpty then [] else l.take n :: groupsOf n fuel (l.drop n)

/-- One element into each lane, from lane 0 (R99 step 2). -/
def lanesStep : List Run32 → List Val → List Run32
  | ls, [] => ls
  | [], _ => []
  | l :: ls, g :: gs => runFma g l :: lanesStep ls gs

/-- Neighbouring lanes added (R99 step 3). -/
def pairUp : List Run32 → List Run32
  | a :: b :: r => runAdd a b :: pairUp r
  | l => l

/-- A tile of at most 16384 elements in `lanes` lanes. -/
def tileSum (lanes : Nat) (vs : List Val) : Run32 :=
  let ls := (groupsOf lanes vs.length vs).foldl lanesStep (List.replicate lanes (0, false))
  (pairUp (pairUp (pairUp (pairUp (pairUp (pairUp ls)))))).headD (0, false)

/-- A running sum from the first value (R99 steps 4 and 5). -/
def runSum : List Run32 → Run32
  | [] => (0, false)
  | x :: xs => xs.foldl runAdd x

/-- The vector V of R99. -/
def vectorSum (lanes : Nat) (vs : List Val) : Run32 := runSum ((groupsOf 16384 vs.length vs).map (tileSum lanes))

/-! ### The statistics of a chunk (R172, R178, R179) -/

/-- Final row statistics of a chunk and its partial part. -/
structure ChunkStats where
  rows : List Nat := []
  slots : List Slot := []
  deriving DecidableEq, Repr

/-- Whether a binary32 pattern is +inf or NaN. -/
def nonFinite32 (p : Nat) : Bool := 0x7F800000 ≤ p % 2 ^ 31

/-- The output values of a chunk, read exactly (R172). -/
def outputVals (d : Desc) (c : Converted) : List Val :=
  c.codes.zipIdx.map fun (p, i) => readVal d.fmtOut 0 (c.scales.getD (i / 32) 0) p

/-- The columns of a row-major list of rows. -/
def columnsOf {α : Type} (cols : Nat) (rows : List (List α)) : List (List α) :=
  (List.range cols).map fun c => rows.filterMap fun r => r[c]?

/-- The statistics of the chunk whose first element is `first`, with `lanes` lanes. An overflow within a column or NORM2 partial of
ORDERED is that of no statistic, and no bit of R179 carries it (DEDUCED, log entry 12). -/
def chunkStats (d : Desc) (lanes first : Nat) (c : Converted) : ChunkStats :=
  let vs := outputVals d c
  let rowVals := if d.func == 3 then groupsOf d.cols vs.length vs else []
  let cols := columnsOf (if d.func == 3 then d.cols else 0) rowVals
  let (rows, norm, colSlots) :=
    if d.ordered then
      (rowVals.map (vectorSum lanes), (vectorSum lanes vs).1, cols.map fun l => f32Slot (l.foldl (fun a g => runFma g a) (0, false)).1)
    else
      let sum := fun (l : List Val) => l.foldl (fun a g => slotAdd a (squareSlot g)) 0
      (rowVals.map fun r => slotF32 (sum r), sum vs, cols.map sum)
  let ed := eddy (3 + (if d.cols = 0 then 0 else first / d.cols)) (rows.map Prod.fst)
  let slot0 := norm + b2n ((rows.map Prod.fst).any nonFinite32) * 2 ^ 642 + b2n (rows.any Prod.snd) * 2 ^ 643
  { rows := rows.map Prod.fst, slots := slot0 :: (ed ++ colSlots) }

/-! ### The merge at plane root M (R181, R184) -/

/-- The header of R183 and the column statistics. ROW_COUNT and ROW_FIRST are those of the contributor of rank 0. -/
def mergeParts (d : Desc) (parts : List (List Slot)) : List U64 × List Nat :=
  let cols := if d.func == 3 then d.cols else 0
  let slot := fun (p : List Slot) (i : Nat) => p.getD i 0
  let colSlots := (List.range cols).map fun c => parts.foldl (fun a p => slotAdd a (slot p (5 + c))) 0
  let colStats := colSlots.map slotF32
  let (f32, f64) :=
    if d.ordered then
      let r := runSum (parts.map fun p => (bitsOf (slot p 0) 31 0, false))
      (r, valF64 (ofF32 r.1))
    else
      let x := parts.foldl (fun a p => slotAdd a (slot p 0 % 2 ^ 642)) 0
      (slotF32 x, valF64 (slotVal x))
  let colBits := colStats.map Prod.fst
  let nonfin := parts.any (fun p => bitOf (slot p 0) 642) || nonFinite32 f32.1 || colBits.any nonFinite32
  let range := parts.any (fun p => bitOf (slot p 0) 643) || f32.2 || colStats.any Prod.snd
  let rowEddy := parts.foldl (fun a p => eddyAdd a [slot p 1, slot p 2, slot p 3, slot p 4]) eddyZero
  let rows := if d.func == 3 then d.rows else 0
  let ed := eddyAdd rowEddy (eddyAdd (eddy 0 [f64 % 2 ^ 32, f64 / 2 ^ 32, f32.1]) (eddy (3 + rows) colBits))
  let rowCount := if d.func != 3 then 0 else if d.op == 3 then d.rows / d.total else d.rows
  ([u64 f64, u64 f32.1, u64 (rowCount * 2 ^ 32),
    u64 (d.disc * 2 ^ 36 + (if d.func == 2 then 1 else 2) * 2 ^ 34 + b2n nonfin * 2 ^ 33 + b2n range * 2 ^ 32 + cols)]
    ++ ed.map u64, colBits)

/-- STATS_NONFINITE of a header. -/
def statsNonfinite (h : List U64) : Bool := bitOf (h.getD 3 0).toNat 33
/-- STATS_RANGE of a header. -/
def statsRange (h : List U64) : Bool := bitOf (h.getD 3 0).toNat 32
/-- STATS_EDDY of a header. -/
def statsEddyOf (h : List U64) : List Nat := (h.drop 4).map BitVec.toNat

/-- The header with the ROW_COUNT and ROW_FIRST of a participant of rank `r` (R183). -/
def headerFor (d : Desc) (r : Nat) (h : List U64) : List U64 :=
  if d.func == 3 && d.count != 0 then
    let w := ownRows d r
    h.set 2 (u64 ((w.2 - w.1) * 2 ^ 32 + w.1))
  else h.set 2 0

/-- Bytes of binary32 values. -/
def f32Bytes (ps : List Nat) : List Byte := ps.flatMap fun p => natToBytes p 4

end Sys2Proof.Machine
end

