-- ==== Sys2Proof/Machine/Flags.lean ====
section
/-! DEFINITION. Status words, sluice lines, completion records and error details, computed from the state. -/

namespace Sys2Proof.Machine

/-! ### Sluice lines (R204 to R208) -/

/-- SLUICE_MEMBER of tap `t`. -/
def sluiceMember (s : State) (t : Nat) : BitVec 16 := BitVec.ofNat 16 (odGet s (0x3000 + t) 0x03)

/-- What tap `t` drives: 1 outside its membership, else its pending arrival (R204); a tap whose index was restored
elsewhere drives 1 (R169). -/
def sluiceDrive (s : State) (t : Nat) : BitVec 16 :=
  match (tapAt s t).keptDrive with
  | some d => d
  | none => ~~~(sluiceMember s t) ||| (tapAt s t).arrivals

/-- Line 15 with the launch logic on it (R208, R241). -/
def launchLine (s : State) (v : BitVec 16) : BitVec 16 :=
  match s.launch with
  | .idle => v
  | .fired => v ||| 0x8000
  | .armed => v &&& 0x7FFF
  | .aborted => v &&& 0x7FFF

/-- The central AND of the drives, without the launch. -/
def sluiceAnd (s : State) : BitVec 16 :=
  (List.range s.params.taps).foldl (fun acc t => acc &&& sluiceDrive s t) 0xFFFF

/-- SLUICE_LINES. -/
def sluiceLines (s : State) : BitVec 16 := launchLine s (sluiceAnd s)

/-- SLUICE_DRIVE as the tap reads it: while the launch holds line 15 it drives that bit (R208, R241). -/
def sluiceDriveRead (s : State) (t : Nat) : BitVec 16 := launchLine s (sluiceDrive s t)

/-! ### Tap words (R141, R142, R147) -/

/-- CQ_TAIL of tap `t`. -/
def cqTail (s : State) (t : Nat) : Nat := odGet s (0x3000 + t) 0x06
/-- CQ_HEAD of tap `t`. -/
def cqHead (s : State) (t : Nat) : Nat := odGet s (0x3000 + t) 0x07
/-- CQ_SIZE of tap `t`. -/
def cqSize (s : State) (t : Nat) : Nat := odGet s (0x3000 + t) 0x09

/-- Records written and not consumed. -/
def cqUsed (s : State) (t : Nat) : Nat := (cqTail s t + 2 ^ 32 - cqHead s t) % 2 ^ 32

/-- QUEUE_FREE (R142). -/
def queueFree (s : State) (t : Nat) : Nat :=
  let q := (tapAt s t).queue.length
  min (64 - q) (cqSize s t - q - cqUsed s t)

/-- POST_STATUS (R141). -/
def postStatus (s : State) (t : Nat) : Nat :=
  odGet s (0x3000 + t) 0x05 * 2 ^ 32 + (tapAt s t).busyCount.toNat * 2 ^ 16 + (tapAt s t).last

/-- The code of a tap state (R147). -/
def tapStateCode : TapState → Nat
  | .unbound => 0 | .active => 1 | .saving => 2 | .parked => 3 | .fenced => 4

/-- Whether the tap holds a contributor index (R162). -/
def tapBound : TapState → Bool
  | .active => true | .saving => true | .parked => true | .unbound => false | .fenced => false

/-- The tree epoch that the instance applied most recently (R147). -/
def lastEpoch (s : State) : Nat := cfg s 0x2200 0x01

/-- TAP_STATE (R147). -/
def tapStateWord (s : State) (t : Nat) : Nat :=
  let x := tapAt s t
  lastEpoch s * 2 ^ 48 + (if tapBound x.state then x.contrib else 0) * 2 ^ 24
    + b2n x.ctx.fencing * 2 ^ 8 + (x.slots.filter id).length * 2 ^ 6 + tapStateCode x.state

/-- CTX_STATUS (R150). -/
def ctxStatusWord (x : Tap) : Nat :=
  x.ctxStatus + x.ctxReason * 2 ^ 8 + (x.queue.filter fun f => f.phase != .queued).length % 128 * 2 ^ 16

/-- Rank of the contributor at tap `t` (R112, R113). -/
def tapRank (s : State) (t : Nat) : Nat := (inputAt s (t / 16) (t % 16)).rank

/-! ### Error details and completion records (R134, R136, R437) -/

/-- No failure: what a detail holds when nothing is named. -/
def noFail : FailInfo :=
  { code := 0, nodeId := 0, contrib := 0xFFFFFF, plane := 0xFF, objKind := 0, obj := 0, cause := 0, sumpSeq := 0 }

/-- Words 4 to 7 of an error (R136). -/
def failWords (f : FailInfo) : Words :=
  [u64 (f.nodeId.toNat * 2 ^ 32 + f.contrib % 2 ^ 24),
   u64 (f.plane % 256 * 2 ^ 24 + f.objKind % 256 * 2 ^ 16 + f.obj % 65536),
   u64 (f.cause % 65536), u64 f.sumpSeq.toNat]

/-- ANCHOR_COMMIT (R134, R437). -/
def anchorCommit (f : Flight) : Int :=
  if f.desc.exact then (if f.begun then f.anchor else f.desc.anchor)
  else if f.desc.disc == 5 then f.desc.anchor else 0

/-- PLANES_DONE (R134). -/
def planesDone (f : Flight) : Nat := f.delivered.foldl (fun acc k => acc ||| 2 ^ k) 0

/-- The sum of the Eddy partials that have arrived (R135). -/
def resultEddy (f : Flight) : List Nat := f.eddies.foldl (fun acc e => eddyAdd acc e.2) eddyZero

/-- Word 0 of a record. `status`: 0 OK, 1 DUPLICATE, 2 ERROR, 3 REFUSED. -/
def recordWord0 (f : Flight) (status : Nat) : U64 :=
  let ran := status != 3
  let ok := status == 0
  u64 ((if ran then planesDone f else 0) * 2 ^ 56
    + b2n (ran && f.replaned) * 2 ^ 54
    + b2n (ran && f.paused) * 2 ^ 53
    + b2n (ran && f.desc.auto && f.prepassDone) * 2 ^ 52
    + b2n (ran && f.desc.frozen) * 2 ^ 51
    + b2n (ok && f.outRange) * 2 ^ 50
    + b2n (ran && f.retryRan) * 2 ^ 49
    + status % 256 * 2 ^ 40
    + f.desc.op * 2 ^ 32
    + f.desc.bucket.toNat)

/-- A completion record (R134): word 3, the GTC, is filled in when the record is written. -/
def completionRecord (f : Flight) (status code : Nat) (tail : Words) : Words :=
  [recordWord0 f status, f.desc.step,
   u64 (f.desc.count * 2 ^ 32 + (if status == 3 then 0 else patternOf (anchorCommit f) 16 * 2 ^ 16) + code % 65536),
   0] ++ tail

/-- The record with its GTC. -/
def stampRecord (gtc : U64) (w : Words) : Words := w.set 3 gtc

/-- A DUPLICATE record copied from the original's (R127): STATUS changes, GTC is set when it is written. -/
def duplicateRecord (w : Words) : Words :=
  w.set 0 (u64 ((w.getD 0 0).toNat - fieldOf (w.getD 0 0) 47 40 * 2 ^ 40 + 2 ^ 40))

/-- STATUS of a record. -/
def recordStatus (w : Words) : Nat := fieldOf (w.getD 0 0) 47 40

/-- RESULT_EDDY or the detail of a record: words 4 to 7. -/
def recordTail (w : Words) : Words := w.drop 4

end Sys2Proof.Machine
end

