-- ==== Sys2Proof/Machine/Wire.lean ====
section
/-! DEFINITION. What travels on a link, bit by bit: flits (R257 to R259), message headers and blocks (R261 to R264), bodies
(R265 to R267), link control payloads (R270), packing (R298 to R300), adit frames (R282 to R284), training blocks (R248). -/

namespace Sys2Proof.Machine

/-! ### Flits (R257 to R259) -/

/-- The header of a flit (R259). -/
structure FlitHdr where
  seq : Nat
  epoch : Nat
  vc : Nat
  plane : Nat
  first : Bool
  last : Bool
  len : Nat
  deriving DecidableEq, Repr

/-- Every field within its width. -/
def FlitHdr.fits (h : FlitHdr) : Bool :=
  h.seq < 2 ^ 24 && h.epoch < 2 ^ 16 && h.vc < 8 && h.plane < 8 && h.len < 256

/-- The header word. -/
def flitWord (h : FlitHdr) : Nat :=
  h.seq * 2 ^ 40 + h.epoch * 2 ^ 24 + h.vc * 2 ^ 21 + h.plane * 2 ^ 18 + b2n h.first * 2 ^ 17 + b2n h.last * 2 ^ 16 + h.len * 2 ^ 8

/-- The fields of a header word. -/
def flitHdrOf (w : Nat) : FlitHdr :=
  { seq := bitsOf w 63 40, epoch := bitsOf w 39 24, vc := bitsOf w 23 21, plane := bitsOf w 20 18
    first := bitOf w 17, last := bitOf w 16, len := bitsOf w 15 8 }

/-- LEN and reserved bits as R259 allows them. -/
def flitHdrOk (w : Nat) : Bool :=
  let h := flitHdrOf w
  bitsOf w 7 0 == 0 && h.vc != 5 &&
    (if h.vc == 6 then h.len == 0
     else if h.vc == 7 then h.len == 240
     else if h.vc == 4 then h.len == 64
     else if h.last then 1 ≤ h.len && h.len ≤ 240 else h.len == 240)

/-- A byte list padded with zeros to `n`. -/
def padTo (n : Nat) (bs : List Byte) : List Byte := bs ++ List.replicate (n - bs.length) 0

/-- The 256 bytes of a flit (R257). -/
def flitBytes (h : FlitHdr) (payload : List Byte) : List Byte :=
  let body := natToBytes (flitWord h) 8 ++ padTo 240 payload
  body ++ natToBytes (crc64 body).toNat 8

/-- The header and payload of 256 bytes; none on a CRC failure (R258, R259). -/
def flitOf (bs : List Byte) : Option (FlitHdr × List Byte) :=
  let w := (wordAt bs 0).toNat
  let h := flitHdrOf w
  if bs.length == 256 && wordAt bs 248 == crc64 (bs.take 248) && flitHdrOk w then some (h, (bs.drop 8).take h.len)
  else none

/-! ### Message headers (R262, R266) -/

/-- The code of a message (R266). -/
def msgNo : MsgCode → Nat
  | .segment => 0x01 | .prepass => 0x02 | .statsPass => 0x03
  | .result => 0x11 | .commit => 0x12 | .retry => 0x13 | .prepassAnswer => 0x14
  | .statsRow => 0x15 | .statsPartial => 0x16 | .statsMerged => 0x17
  | .openNote => 0x21 | .abort => 0x22 | .barrierArrive => 0x23 | .barrierRelease => 0x24
  | .stepArrive => 0x25 | .stepRelease => 0x26 | .pause => 0x27 | .resume => 0x28 | .spanReport => 0x29

/-- The message of a code. -/
def msgOfNo : Nat → Option MsgCode
  | 0x01 => some .segment | 0x02 => some .prepass | 0x03 => some .statsPass
  | 0x11 => some .result | 0x12 => some .commit | 0x13 => some .retry | 0x14 => some .prepassAnswer
  | 0x15 => some .statsRow | 0x16 => some .statsPartial | 0x17 => some .statsMerged
  | 0x21 => some .openNote | 0x22 => some .abort | 0x23 => some .barrierArrive | 0x24 => some .barrierRelease
  | 0x25 => some .stepArrive | 0x26 => some .stepRelease | 0x27 => some .pause | 0x28 => some .resume
  | 0x29 => some .spanReport | _ => none

/-- The virtual channel of a message (R266). -/
def msgVc (c : MsgCode) : Nat := msgNo c / 16

/-- The codes whose bodies travel in parts (R265). -/
def inParts : MsgCode → Bool
  | .prepass => true | .statsPass => true | .retry => true | .prepassAnswer => true
  | .statsRow => true | .statsPartial => true | .statsMerged => true
  | _ => false

/-- The fields of a message header (R262). -/
structure MsgHdr where
  msg : Nat
  attempt : Nat
  agree : Bool
  sideband : Bool
  lastSeg : Bool
  ovf : Bool
  chunk : Bool
  eddy : Bool
  maxexp : Nat
  bucket : Nat
  step : Nat
  spanBase : Nat
  spanK : Nat
  run : Nat
  seg : Nat
  elems : Nat
  firstElem : Nat
  bytes : Nat
  deriving DecidableEq, Repr

/-- Every field within its width. -/
def MsgHdr.fits (h : MsgHdr) : Bool :=
  h.msg < 2 ^ 8 && h.attempt < 2 && h.maxexp < 2 ^ 16 && h.bucket < 2 ^ 32 && h.step < 2 ^ 64 && h.spanBase < 2 ^ 24
    && h.spanK < 2 ^ 5 && h.run < 8 && h.seg < 2 ^ 24 && h.elems < 2 ^ 16 && h.firstElem < 2 ^ 16 && h.bytes < 2 ^ 32

/-- The four header words. -/
def msgWords (h : MsgHdr) : List Nat :=
  [h.msg * 2 ^ 56 + h.attempt * 2 ^ 55 + b2n h.agree * 2 ^ 54 + b2n h.sideband * 2 ^ 53 + b2n h.lastSeg * 2 ^ 52
     + b2n h.ovf * 2 ^ 51 + b2n h.chunk * 2 ^ 50 + b2n h.eddy * 2 ^ 49 + h.maxexp * 2 ^ 32 + h.bucket,
   h.step,
   h.spanBase * 2 ^ 40 + h.spanK * 2 ^ 35 + h.run * 2 ^ 32 + h.seg,
   h.elems * 2 ^ 48 + h.firstElem * 2 ^ 32 + h.bytes]

/-- The header of four words. DEDUCED (log entry 62). -/
def msgHdrOf (w0 w1 w2 w3 : Nat) : MsgHdr :=
  { msg := bitsOf w0 63 56, attempt := bitsOf w0 55 55, agree := bitOf w0 54, sideband := bitOf w0 53, lastSeg := bitOf w0 52
    ovf := bitOf w0 51, chunk := bitOf w0 50, eddy := bitOf w0 49, maxexp := bitsOf w0 47 32, bucket := bitsOf w0 31 0
    step := w1
    spanBase := bitsOf w2 63 40, spanK := bitsOf w2 39 35, run := bitsOf w2 34 32, seg := bitsOf w2 23 0
    elems := bitsOf w3 63 48, firstElem := bitsOf w3 47 32, bytes := bitsOf w3 31 0 }

/-! ### Lanes on a link (R267) -/

/-- How the lanes of a body travel. -/
inductive LaneFmt where
  | plain (bytes : Nat)     -- patterns
  | sinter (bytes : Nat)    -- two's-complement lanes
  | mxMoved (f : Nat)       -- MX codes with their scale bytes
  | mxLanes (f : Nat)       -- SCALED transport blocks of binary32 lanes (R84)
  deriving DecidableEq, Repr

/-- Lanes of a SEGMENT (`up`) or a RESULT of a bucket. RESULT lanes travel as FMT_OUT patterns (DEDUCED, log entry 13). -/
def laneFmt (d : Desc) (up : Bool) : LaneFmt :=
  let moved := fun (f : Nat) => if isMx f then LaneFmt.mxMoved f else .plain (fmtBits f / 8)
  if d.isArg then .plain 4
  else if d.op == 4 || d.op == 5 then moved d.fmtIn
  else if !up then moved d.fmtOut
  else if d.disc == 1 then .sinter 8
  else if d.disc == 2 then .sinter 16
  else if d.disc == 5 then .mxLanes d.fmtOut
  else .plain 4

/-- The element of `t` that a binary32 lane is at scale `x` (R84: exact). -/
def laneToElem (t : FloatTy) (x : Int) (p : Nat) : Nat :=
  match ofF32 p with
  | .fin d => (toPattern t .rne false { d with e := d.e - x }).1
  | _ => 0

/-- The binary32 lane of an element at scale `x`. -/
def elemToLane (t : FloatTy) (x : Int) (n : Nat) : Nat := toF32 .rne ((decodeFloat t n).scale x)

/-- Bytes of MX elements block by block, then one scale byte per block. -/
def mxBody (f : Nat) (codes : List Nat) (scales : List Int) : List Byte :=
  (blocks32 codes).flatMap (mxBlockBytes f) ++ scales.map fun x => BitVec.ofNat 8 (x + 127).toNat

/-- The body of lanes. -/
def lanesBytes (fm : LaneFmt) (ls : List Lane) (scales : List Int) : List Byte :=
  match fm with
  | .plain w => ls.flatMap fun l => natToBytes l.val.toNat w
  | .sinter w => ls.flatMap fun l => natToBytes (patternOf l.val (8 * w)) w
  | .mxMoved f => mxBody f (ls.map fun l => l.val.toNat) scales
  | .mxLanes f =>
    mxBody f (ls.zipIdx.map fun (l, i) => laneToElem (fmtTy f) (scales.getD (i / 32) 0) l.val.toNat) scales

/-- `n` lanes of a body with the sidebands `sides`. DEDUCED (log entry 13). -/
def lanesOf (fm : LaneFmt) (n : Nat) (bs : List Byte) (side : Nat → Sideband) : List Lane × List Int :=
  let nb := ceilDiv n 32
  let scale := fun (f i : Nat) => (((bs.drop (nb * (4 * fmtBits f) + i)).headD 0).toNat : Int) - 127
  let code := fun (f i : Nat) => mxCode f ((bs.drop (i / 32 * (4 * fmtBits f))).take (4 * fmtBits f)) (i % 32)
  match fm with
  | .plain w => ((List.range n).map fun i => { val := (bytesToNat ((bs.drop (i * w)).take w) : Int), side := side i }, [])
  | .sinter w =>
    ((List.range n).map fun i => { val := signedOf (bytesToNat ((bs.drop (i * w)).take w)) (8 * w), side := side i }, [])
  | .mxMoved f => ((List.range n).map fun i => { val := (code f i : Int), side := side i }, (List.range nb).map (scale f))
  | .mxLanes f =>
    ((List.range n).map fun i => { val := (elemToLane (fmtTy f) (scale f (i / 32)) (code f i) : Int), side := side i },
     (List.range nb).map (scale f))

/-- A sideband in its four bits. -/
def sideBits (s : Sideband) : Nat := b2n s.nan + 2 * b2n s.pinf + 4 * b2n s.ninf
/-- The sideband of four bits. -/
def sideOf (n : Nat) : Sideband := { nan := bitOf n 0, pinf := bitOf n 1, ninf := bitOf n 2 }

/-- The sideband map: two elements to a byte (R267). -/
def sideMap : List Lane → List Byte
  | [] => []
  | [a] => [BitVec.ofNat 8 (sideBits a.side)]
  | a :: b :: r => BitVec.ofNat 8 (sideBits a.side + 16 * sideBits b.side) :: sideMap r

/-! ### Packing (R299, R300) -/

/-- Whether `v` is the sign extension of its low `m` bytes. -/
def fitsBytes (v : Int) (m : Nat) : Bool :=
  if m = 0 then v == 0 else -(2 ^ (8 * m - 1) : Nat) ≤ v && v < (2 ^ (8 * m - 1) : Nat)

/-- The length code of a block: the smallest L up to `w`. -/
def packLen (w : Nat) (vs : List Int) : Nat := ((List.range w).find? fun m => vs.all fun v => fitsBytes v m).getD w

/-- One packed block. -/
def packBlock (w : Nat) (vs : List Int) : List Byte :=
  let l := packLen w vs
  BitVec.ofNat 8 l :: vs.flatMap fun v => natToBytes (patternOf v (8 * w)) l

/-- The packed body. -/
def packLanes (w : Nat) (vs : List Int) : List Byte := (blocks32 vs).flatMap (packBlock w)

/-- The lanes of a packed body of `n` lanes; none on a protocol error (R300). -/
def unpackLanes (w : Nat) : Nat → Nat → List Byte → Option (List Int)
  | 0, n, bs => if n = 0 && bs.isEmpty then some [] else none
  | fuel + 1, n, bs =>
    if n = 0 then (if bs.isEmpty then some [] else none)
    else
      let l := (bs.headD 0).toNat
      let k := min n 32
      if bs.isEmpty || w < l || bs.length < 1 + k * l then none
      else
        let vs := (List.range k).map fun i =>
          if l = 0 then (0 : Int) else signedOf (bytesToNat ((bs.drop (1 + i * l)).take l)) (8 * l)
        (unpackLanes w fuel (n - k) (bs.drop (1 + k * l))).map fun r => vs ++ r

/-! ### Bodies (R266) -/

/-- The 32 bytes of an ABORT body. -/
def failBytes (f : FailInfo) : List Byte :=
  natToBytes f.code 8 ++ wordsToBytes ((failWords f).take 3)

/-- The failure of an ABORT body; SUMP_SEQ is not carried (log entry 14). -/
def failOf (bs : List Byte) (sumpSeq : U32) : FailInfo :=
  let w4 := (wordAt bs 8).toNat
  let w5 := (wordAt bs 16).toNat
  { code := bytesToNat (bs.take 2), nodeId := u32 (w4 / 2 ^ 32), contrib := bitsOf w4 23 0, plane := bitsOf w5 31 24
    objKind := bitsOf w5 23 16, obj := bitsOf w5 15 0, cause := bitsOf (wordAt bs 24).toNat 15 0, sumpSeq := sumpSeq }

/-- The bytes of a STEP_ARRIVE summary. -/
def summaryBytes (t : StepSummary) : List Byte :=
  natToBytes t.issued.toNat 4 ++ natToBytes t.delivered.toNat 4 ++ natToBytes t.accepted.toNat 4 ++ natToBytes t.credits.toNat 4
    ++ (match t.fail with | some f => failBytes f | none => List.replicate 32 0)

/-- A span in 4 bytes. -/
def spanBytes (x : Span) : List Byte := natToBytes (x.k * 2 ^ 24 + x.base) 4

/-- The body of a message, with the lane format of its bucket. -/
def bodyBytes (fm : LaneFmt) (b : Body) : List Byte :=
  match b with
  | .none => []
  | .lanes ls sc => lanesBytes fm ls sc
  | .exps es => es.flatMap fun e => natToBytes (patternOf e 16) 2
  | .scaleVec xs => xs.map fun x => BitVec.ofNat 8 (x + 127).toNat
  | .rows ws => ws.flatMap fun w => natToBytes w 4
  | .slots ss => ss.flatMap fun x => natToBytes x 128
  | .merged h cs => wordsToBytes h ++ f32Bytes' cs
  | .fail f => failBytes f
  | .summary t => summaryBytes t
  | .spans l => l.flatMap spanBytes
  | .report o r => natToBytes o 4 ++ natToBytes r 4
where
  /-- Column statistics. -/
  f32Bytes' (ps : List Nat) : List Byte := ps.flatMap fun p => natToBytes p 4

/-- Groups of `w` bytes as numbers. -/
def numsOf (w : Nat) (bs : List Byte) : List Nat :=
  (List.range (bs.length / w)).map fun i => bytesToNat ((bs.drop (i * w)).take w)

/-- The body of a received message that is not lanes. -/
def bodyOf (c : MsgCode) (bs : List Byte) (sumpSeq : U32) : Body :=
  match c with
  | .prepass => .exps ((numsOf 2 bs).map fun n => signedOf n 16)
  | .statsPass => .slots (numsOf 128 bs)
  | .statsPartial => .slots (numsOf 128 bs)
  | .retry => .scaleVec (bs.map fun b => (b.toNat : Int) - 127)
  | .prepassAnswer => .scaleVec (bs.map fun b => (b.toNat : Int) - 127)
  | .statsRow => .rows (numsOf 4 bs)
  | .statsMerged => .merged ((numsOf 8 (bs.take 64)).map u64) (numsOf 4 (bs.drop 64))
  | .abort => .fail (failOf bs sumpSeq)
  | .stepArrive =>
    let n := fun (o : Nat) => u32 (bytesToNat ((bs.drop o).take 4))
    let f := failOf (bs.drop 16) sumpSeq
    .summary { issued := n 0, delivered := n 4, accepted := n 8, credits := n 12, fail := if f.code = 0 then none else some f }
  | .pause => .spans ((numsOf 4 bs).map spanOf)
  | .resume => .spans ((numsOf 4 bs).map spanOf)
  | .spanReport => .report (bytesToNat (bs.take 4)) (bytesToNat ((bs.drop 4).take 4))
  | _ => .none

/-! ### Whole messages (R261, R263, R264, R265) -/

/-- The agreement block. -/
def agreeBytes (a : Agreement) : List Byte := wordsToBytes [a.w0, a.w1, a.w2, 0]
/-- The agreement set of a block. DESIGN CHOICE (log entry 11). -/
def agreeOf (bs : List Byte) : Agreement := ⟨wordAt bs 0, wordAt bs 8, wordAt bs 16⟩

/-- Whether OVF of a message can carry OUTPUT_RANGE of what it closes: LAST_SEG of a chunk, or a COMMIT. DESIGN CHOICE (log entry 121). -/
def carriesRange (m : Message) : Bool := ((m.code == .segment || m.code == .result) && m.lastSeg) || m.code == .commit

/-- The header of one message or part. -/
def hdrOfMessage (m : Message) (no : Nat) (body : List Byte) (seg : Nat) (firstPart lastPart : Bool) : MsgHdr :=
  let ls := m.body.laneList
  { msg := no, attempt := m.attempt % 2, agree := m.agree.isSome && firstPart
    sideband := ls.any fun l => sideAny l.side
    lastSeg := if inParts m.code then lastPart else m.lastSeg
    ovf := (m.ovf || (m.outRange && carriesRange m)) && lastPart, chunk := m.chunk.isSome && firstPart, eddy := m.eddy.isSome && lastPart
    maxexp := if lastPart then patternOf m.maxexp 16 else 0, bucket := m.bucket.toNat, step := m.step.toNat
    spanBase := m.span.base, spanK := m.span.k, run := m.run % 8, seg := seg
    elems := ls.length, firstElem := m.firstElem, bytes := body.length }

/-- The bytes of one message or part (R261). -/
def partBytes (m : Message) (no : Nat) (body : List Byte) (seg : Nat) (firstPart lastPart : Bool) : List Byte :=
  let h := hdrOfMessage m no body seg firstPart lastPart
  (msgWords h).flatMap (fun w => natToBytes w 8)
    ++ (match m.agree with | some a => if firstPart then agreeBytes a else [] | none => [])
    ++ (match m.chunk with | some c => if firstPart then natToBytes (c.1 * 2 ^ 32 + c.2) 16 else [] | none => [])
    ++ body
    ++ (if h.sideband then sideMap m.body.laneList else [])
    ++ (match m.eddy with | some e => if lastPart then e.flatMap (fun w => natToBytes w 8) else [] | none => [])

/-- The packed code of a message with sinter lanes (R298). -/
def packedNo (m : Message) (w : Nat) : Nat := (if m.code == .segment then 0x81 else 0x91) + (if w == 16 then 1 else 0)

/-- Whether the lanes of a message are sinter lanes, and their width (R298): moved patterns of a sinter format are. -/
def sinterWidth (d : Desc) (m : Message) : Nat :=
  if m.code != .segment && m.code != .result then 0
  else
    match laneFmt d (m.code == .segment) with
    | .sinter w => w
    | .plain w =>
      let f := if d.op == 4 || d.op == 5 then d.fmtIn else d.fmtOut
      if !d.isArg && isSinter f && (m.code == .result || d.op == 4 || d.op == 5) then w else 0
    | _ => 0

/-- The messages that carry `m` on a link: one, or its parts (R265). `pack` asks for packed sinter lanes. -/
def messageBytes (d : Desc) (pack : Bool) (m : Message) : List (List Byte) :=
  let w := sinterWidth d m
  if pack && w != 0 then
    let vs := m.body.laneList.map fun l => if l.val < 0 then l.val else signedOf (l.val.toNat % 2 ^ (8 * w)) (8 * w)
    [partBytes m (packedNo m w) (packLanes w vs) m.seg true true]
  else
    let body := bodyBytes (laneFmt d (m.code == .segment)) m.body
    if inParts m.code then
      let n := max 1 (ceilDiv body.length 65536)
      (List.range n).map fun i => partBytes m (msgNo m.code) ((body.drop (65536 * i)).take 65536) i (i = 0) (i + 1 = n)
    else [partBytes m (msgNo m.code) body m.seg true true]

/-- The flits of one message on its (VC, PLANE) pair (R260, R261). -/
def flitsOf (vc plane epoch : Nat) (bs : List Byte) : List Flit :=
  let n := max 1 (ceilDiv bs.length 240)
  (List.range n).map fun i =>
    { epoch := epoch, vc := vc, plane := plane, first := i = 0, last := i + 1 = n, payload := (bs.drop (240 * i)).take 240 }

/-- A received message before its body is read. -/
structure RawMsg where
  hdr : MsgHdr
  agree : Option Agreement
  chunk : Option (Nat × Nat)
  body : List Byte
  side : List Byte
  eddy : Option (List Nat)
  deriving DecidableEq, Repr

/-- The parts of a message's bytes. -/
def rawOf (bs : List Byte) : RawMsg :=
  let w := fun (i : Nat) => (wordAt bs (8 * i)).toNat
  let h := msgHdrOf (w 0) (w 1) (w 2) (w 3)
  let bs := bs.drop 32
  let (agree, bs) := if h.agree then (some (agreeOf bs), bs.drop 32) else (none, bs)
  let (chunk, bs) := if h.chunk then (some ((wordAt bs 0).toNat / 2 ^ 32, (wordAt bs 0).toNat % 2 ^ 32), bs.drop 16) else (none, bs)
  let body := bs.take h.bytes
  let bs := bs.drop h.bytes
  let n := if h.sideband then ceilDiv h.elems 2 else 0
  { hdr := h, agree := agree, chunk := chunk, body := body, side := bs.take n
    eddy := if h.eddy then some ((numsOf 8 ((bs.drop n).take 32))) else none }

/-- The sideband of element `i` of a raw message. -/
def rawSide (r : RawMsg) (i : Nat) : Sideband := sideOf (((r.side.getD (i / 2) 0).toNat >>> (4 * (i % 2))) % 16)

/-- The message of raw parts with the body already read. -/
def messageOf (c : MsgCode) (plane : Nat) (r : RawMsg) (body : Body) : Message :=
  { code := c, plane := plane, bucket := u32 r.hdr.bucket, step := u64 r.hdr.step, attempt := r.hdr.attempt, run := r.hdr.run
    span := ⟨r.hdr.spanBase, r.hdr.spanK⟩, seg := if inParts c then 0 else r.hdr.seg, firstElem := r.hdr.firstElem
    lastSeg := r.hdr.lastSeg, ovf := r.hdr.ovf, maxexp := signedOf r.hdr.maxexp 16, agree := r.agree, chunk := r.chunk
    body := body, eddy := r.eddy }

/-! ### Link control flits (R270) -/

/-- The 240 payload bytes of an LCF. -/
def lcfBytes (i : LcfInfo) : List Byte :=
  padTo 240 (natToBytes (i.ack % 2 ^ 24 + b2n i.nak * 2 ^ 24) 8
    ++ (padList i.freedVc0).flatMap (fun n => natToBytes n 2) ++ (padList i.freedVc1).flatMap (fun n => natToBytes n 2)
    ++ natToBytes i.freedVc2 2 ++ natToBytes i.freedVc3 2 ++ natToBytes i.freedVc4 2)
where
  /-- Eight values. -/
  padList (l : List Nat) : List Nat := l.take 8 ++ List.replicate (8 - l.length) 0

/-- The LCF of payload bytes. -/
def lcfOf (bs : List Byte) : LcfInfo :=
  let w := (wordAt bs 0).toNat
  let n := fun (o : Nat) => bytesToNat ((bs.drop o).take 2)
  { ack := bitsOf w 23 0, nak := bitOf w 24
    freedVc0 := (List.range 8).map fun k => n (8 + 2 * k), freedVc1 := (List.range 8).map fun k => n (24 + 2 * k)
    freedVc2 := n 40, freedVc3 := n 42, freedVc4 := n 44 }

/-! ### Time messages (R233) -/

/-- The 64 bytes of a time message. -/
def timeBytes (m : TimeMsg) : List Byte :=
  wordsToBytes [u64 (m.kind % 256 * 2 ^ 56 + m.state % 256 * 2 ^ 48 + m.seq.toNat), u64 m.tTx, u64 m.tRx, u64 m.tEcho,
    u64 (m.tTxFrac % 2 ^ 16 * 2 ^ 48 + m.tRxFrac % 2 ^ 16 * 2 ^ 32 + m.tEchoFrac % 2 ^ 16 * 2 ^ 16), u64 m.bound.toNat, 0, 0]

/-- The time message of 64 bytes. -/
def timeOf (bs : List Byte) : TimeMsg :=
  let w := fun (i : Nat) => (wordAt bs (8 * i)).toNat
  { kind := bitsOf (w 0) 63 56, state := bitsOf (w 0) 55 48, seq := u32 (w 0), tTx := w 1, tRx := w 2, tEcho := w 3
    tTxFrac := bitsOf (w 4) 63 48, tRxFrac := bitsOf (w 4) 47 32, tEchoFrac := bitsOf (w 4) 31 16, bound := u32 (w 5) }

/-! ### Adit frames (R282 to R284) -/

/-- The adit header (R283). -/
structure AditHdr where
  kind : Nat
  flits : Nat
  seq : Nat
  epoch : Nat
  ack : Nat
  holdCount : Nat
  holdFirst : Nat
  landingFree : Nat
  version : Nat
  packed : Bool
  service : Bool
  plane : Nat
  deriving DecidableEq, Repr

/-- Every field within its width. -/
def AditHdr.fits (h : AditHdr) : Bool :=
  h.kind < 2 ^ 8 && h.flits < 2 ^ 8 && h.seq < 2 ^ 48 && h.epoch < 2 ^ 16 && h.ack < 2 ^ 48 && h.holdCount < 2 ^ 16
    && h.holdFirst < 2 ^ 48 && h.landingFree < 2 ^ 16 && h.version < 2 ^ 8 && h.plane < 8

/-- The four header words. -/
def aditWords (h : AditHdr) : List Nat :=
  [h.kind * 2 ^ 56 + h.flits * 2 ^ 48 + h.seq, h.epoch * 2 ^ 48 + h.ack, h.holdCount * 2 ^ 48 + h.holdFirst,
   h.landingFree * 2 ^ 48 + h.version * 2 ^ 8 + b2n h.packed * 2 ^ 7 + b2n h.service * 2 ^ 3 + h.plane]

/-- The header of four words. -/
def aditHdrOf (w0 w1 w2 w3 : Nat) : AditHdr :=
  { kind := bitsOf w0 63 56, flits := bitsOf w0 55 48, seq := bitsOf w0 47 0, epoch := bitsOf w1 63 48, ack := bitsOf w1 47 0
    holdCount := bitsOf w2 63 48, holdFirst := bitsOf w2 47 0, landingFree := bitsOf w3 63 48, version := bitsOf w3 15 8
    packed := bitOf w3 7, service := bitOf w3 3, plane := bitsOf w3 2 0 }

/-- What an adit port's objects say of its frames: LOCAL_MAC, PEER_MAC, ETHERTYPE, VLAN (R306). -/
structure FrameCfg where
  localMac : Nat
  peerMac : Nat
  etherType : Nat
  vlan : Nat
  deriving DecidableEq, Repr

/-- A number in network byte order. -/
def netBytes (n len : Nat) : List Byte := (natToBytes n len).reverse

/-- OCTETS values stand in their listed order: the first octet is the lowest byte of the object (R381). -/
def macBytes (n : Nat) : List Byte := natToBytes n 6

/-- The bytes of a frame before padding and FCS, padded to 60 (R281, R282). -/
def frameBytes (c : FrameCfg) (h : AditHdr) (payload : List Byte) : List Byte :=
  padTo 60 (macBytes c.peerMac ++ macBytes c.localMac
    ++ (if bitOf c.vlan 16 then netBytes 0x8100 2 ++ netBytes (c.vlan % 2 ^ 16) 2 else [])
    ++ netBytes c.etherType 2
    ++ (aditWords h).flatMap (fun w => natToBytes w 8) ++ payload)

/-- The header and what follows it, where the frame passes the filters of R281. -/
def frameOf (c : FrameCfg) (bs : List Byte) : Option (AditHdr × List Byte) :=
  let tagged := (bs.drop 12).take 2 == netBytes 0x8100 2
  let bs' := if tagged then bs.drop 16 else bs.drop 12
  if bs.length < 60 || bs.take 6 != macBytes c.localMac || (bs.drop 6).take 6 != macBytes c.peerMac
      || tagged != bitOf c.vlan 16 || bs'.take 2 != netBytes c.etherType 2 then none
  else
    let bs' := bs'.drop 2
    let w := fun (i : Nat) => (wordAt bs' (8 * i)).toNat
    some (aditHdrOf (w 0) (w 1) (w 2) (w 3), bs'.drop 32)

/-- The HELLO block (R284). -/
structure HelloBlock where
  node : Nat
  port : Nat
  peerSeen : Bool
  packOk : Bool
  flitsMax : Nat
  session : Nat
  deriving DecidableEq, Repr

/-- The bytes of a HELLO block. -/
def helloBytes (h : HelloBlock) : List Byte :=
  wordsToBytes [u64 (h.node * 2 ^ 32 + h.port % 2 ^ 16),
    u64 (b2n h.peerSeen * 2 ^ 9 + b2n h.packOk * 2 ^ 8 + h.flitsMax % 256), u64 h.session, 0]

/-- The HELLO block of bytes. -/
def helloOf (bs : List Byte) : HelloBlock :=
  let w := fun (i : Nat) => (wordAt bs (8 * i)).toNat
  { node := bitsOf (w 0) 63 32, port := bitsOf (w 0) 15 0, peerSeen := bitOf (w 1) 9, packOk := bitOf (w 1) 8
    flitsMax := bitsOf (w 1) 7 0, session := w 2 }

/-! ### Training blocks (R248) -/

/-- A training block. -/
structure TrainBlock where
  lane : Nat
  rxReady : Bool
  phase : Nat
  width : Nat
  node : Nat
  port : Nat
  rxGood : Nat
  fresh : Bool
  deriving DecidableEq, Repr

/-- The 16 bytes of a training block. -/
def trainBytes (b : TrainBlock) : List Byte :=
  let body := natToBytes 0xC35A 2 ++ natToBytes (b.lane % 8 + b2n b.rxReady * 8 + b.phase % 8 * 32) 1 ++ natToBytes b.width 1
    ++ natToBytes b.node 4 ++ natToBytes b.port 2 ++ natToBytes b.rxGood 1 ++ natToBytes (b2n b.fresh) 1
  body ++ natToBytes (crc64 body).toNat 4

/-- The training block of 16 bytes; none where CHECK fails or the block is not one. -/
def trainOf (bs : List Byte) : Option TrainBlock :=
  let n := fun (o k : Nat) => bytesToNat ((bs.drop o).take k)
  if bs.length == 16 && n 0 2 == 0xC35A && n 12 4 == (crc64 (bs.take 12)).toNat % 2 ^ 32 then
    some { lane := n 2 1 % 8, rxReady := bitOf (n 2 1) 3, phase := n 2 1 / 32, width := n 3 1, node := n 4 4, port := n 8 2
           rxGood := n 10 1, fresh := bitOf (n 11 1) 0 }
  else none

end Sys2Proof.Machine
end

