-- ==== Sys2Proof/Machine/Fabric.lean ====
section
/-! DEFINITION. How work moves between the units of the instance: fabric clocks and wakes (R408, R414), messages between
taps, querns and ports (R14, R18, R19), and the records of failures (R369, R370). -/

namespace Sys2Proof.Machine

/-! ### Clocks and wakes -/

/-- A wake trigger (R413, R414). -/
def wakeTrigger (s : State) : State :=
  match s.power.state with
  | .entering => { s with power := { s.power with state := .running } }
  | .dormant => { s with power := { s.power with state := .waking } }
  | _ => s

/-- Start the common domain (R408). -/
def startCommon (s : State) : State :=
  if s.power.common || s.power.starting.contains none then s
  else { s with power := { s.power with starting := s.power.starting ++ [none] } }

/-- Start plane `k`'s domain, and with it the common domain (R408). -/
def startPlane (s : State) (k : Nat) : State :=
  let s := startCommon s
  if s.power.planes.getLsbD k || s.power.starting.contains (some k) then s
  else { s with power := { s.power with starting := s.power.starting ++ [some k] } }

/-- Start every domain that a plane operation needs. -/
def startFabric (s : State) : State := forAll (activePlanes s) (startCommon s) startPlane

/-- Whether the instance is in a block reset or a sleep that holds fabric work back. -/
def fabricAsleep (s : State) : Bool :=
  match s.power.state with
  | .dormant => true
  | .waking => true
  | _ => false

/-- An access to flags or sluice lines: it waits for a wake or a clock start (R408, R414, R197). -/
def onCommon (s : State) (c : Instr) (f : State → State) : State :=
  let s := wakeTrigger s
  if fabricAsleep s then { s with held := s.held ++ [(.wake, c)] }
  else if s.power.common then f s
  else { startCommon s with held := s.held ++ [(.clock none, c)] }

/-! ### Ports -/

/-- Whether VC 0 to 2 of a plane are closed on the port after DOWN (R255): the epoch in force then is still in force.
DEDUCED (log entry 37). -/
def planeClosed (s : State) (port : PortRef) (plane : Nat) : Bool :=
  let c := match port with
    | .lattice p => (latAt s p).closedAt
    | .adit a => (aditAt s a).closedAt
  c.any fun x => x.1 == plane && x.2 == epochOf s plane

/-- A number added to the packed-byte counters of an adit port (R404). -/
def packCount (s : State) (a packed unpacked : Nat) : State :=
  let i := 0x7018 + a
  let put := fun (s : State) (sub n : Nat) => odSet s i sub (min (odGet s i sub + n) 0xFFFFFFFFFFFFFFFF)
  put (put s 0x0A packed) 0x0B unpacked

/-- Flits put at the end of a port's transmit queue. -/
def queueFlits (s : State) (port : PortRef) (fs : List Flit) : State :=
  match port with
  | .lattice p => modLat s p fun x => { x with txq := x.txq ++ fs }
  | .adit a => modAdit s a fun x => { x with txq := x.txq ++ fs }

/-- Whether an adit port has a session in force (R287). -/
def aditLive (x : AditPort) : Bool :=
  match x.state with | .active => true | .recovering => true | .quiet => true | _ => false

/-- Flits dropped for their epoch, or for a plane that is closed (R255, R276). -/
def epochDropped (s : State) (port : PortRef) (n : Nat) : State :=
  match port with
  | .lattice p => cntAdd s (0x7040 + p) 0x0F n
  | .adit a => cntAdd s (0x7018 + a) 0x0E n

/-- The flits of a message on a port: of its packed form where the port packs (R298). -/
def portFlits (epoch : Nat) (pack : Bool) (d : Desc) (m : Message) : List Flit :=
  (messageBytes d pack m).flatMap (flitsOf (msgVc m.code) m.plane epoch)

/-- A message as flits in the transmit queue of adit port `a`, whose session is in force (R298, R404). -/
def aditQueue (s : State) (a epoch : Nat) (d : Desc) (m : Message) : State :=
  let pack := (aditAt s a).packTx
  let s := if pack && sinterWidth d m != 0 then
      packCount s a ((messageBytes d pack m).foldl (fun n b => n + (rawOf b).body.length) 0) (m.body.laneList.length * sinterWidth d m)
    else s
  queueFlits s (.adit a) (portFlits epoch pack d m)

/-- A message handed to a port. On a closed plane its flits are dropped and counted (R255); at an adit without a session it waits for
one, which says how it travels (R298). -/
def sendPort (s : State) (port : PortRef) (d : Desc) (m : Message) : State :=
  if planeClosed s port m.plane then epochDropped s port (portFlits 0 false d m).length
  else
    match port with
    | .lattice _ => queueFlits s port (portFlits (epochOf s m.plane) false d m)
    | .adit a =>
      if aditLive (aditAt s a) then aditQueue s a (epochOf s m.plane) d m
      else modAdit s a fun x => { x with waitMsgs := x.waitMsgs ++ [(epochOf s m.plane, d, m)] }

/-! ### Messages between units -/

/-- The command that delivers an upward message at a quern input. -/
def arriveUp (q input : Nat) (m : Message) : Instr :=
  match m.code with
  | .prepass => .prepass q input m
  | .statsPass => .statsPass q input m .none
  | .openNote => .openNote q input m
  | .abort => .abort (.up q input) m
  | .barrierArrive => .barrierArrive q input m
  | .stepArrive => .stepArrive q input m
  | .pause => .pause q input m
  | .resume => .resume q input m
  | _ => .segment q input m .none

/-- The command that delivers a downward message at a tap or at a quern from its parent. -/
def arriveDown (u : UnitRef) (m : Message) : Instr :=
  match m.code with
  | .prepassAnswer => .prepassAnswer ⟨u, .none⟩ m
  | .commit => .commit ⟨u, .none⟩ m
  | .retry => .retry ⟨u, .none⟩ m
  | .statsRow => .statsRow ⟨u, .none⟩ m
  | .statsPartial => .statsPartial ⟨u, .none⟩ m
  | .statsMerged => .statsMerged ⟨u, .none⟩ m
  | .abort => .abort (.down u) m
  | .barrierRelease => .barrierRelease u m
  | .stepRelease => .stepRelease u m
  | _ => .result ⟨u, .none⟩ m

/-- A tap sends up its leaf quern (R18). -/
def tapUp (s : State) (t : Nat) (m : Message) : State :=
  post s (arriveUp (t / 16) (t % 16) { m with span := ⟨(tapAt s t).contrib, 0⟩ })

/-- Segment buffers of an input in use: by accepted segments that are not yet combined, and by segments that wait (R6, R16). -/
def buffersUsed (s : State) (q i : Nat) : Nat :=
  let x := quernAt s q
  let taken := fun (l : List (Nat × Message)) => (l.filter fun b => b.1 == i && b.2.code == .segment).length
  (x.entries.map fun e => taken e.buf).sum + taken x.waiting

/-- The entry of quern `q` for a key and plane. -/
def entryOf (s : State) (q : Nat) (m : Message) : Option Entry :=
  (quernAt s q).entries.find? fun e => m.keyIs e.bucket e.step e.plane

/-- The agreement set of a message's bucket as quern `q` knows it: of the message, its entry, or a key it closed. -/
def knownAgree (s : State) (q : Nat) (m : Message) : Option Agreement :=
  match m.agree with
  | some a => some a
  | none =>
    match (entryOf s q m).bind (·.agree) with
    | some a => some a
    | none => ((quernAt s q).closed.find? fun c => !c.lost && m.keyIs c.bucket c.step c.plane).bind (·.agree)

/-- The descriptor fields that quern `q` knows of a message's bucket. -/
def knownDesc (s : State) (q : Nat) (m : Message) : Desc :=
  match knownAgree s q m with
  | some a => a.desc m.bucket m.step
  | none => ⟨0, 0, 0, 0, 0, 0, 0, 0⟩

/-- A quern sends upward (R8, R19, R21). -/
def quernUp (s : State) (q : Nat) (m : Message) : State :=
  let m := { m with span := outSpan s q }
  match quernOut s q m.plane with
  | .quern q' i => post s (arriveUp q' i m)
  | .lattice p => sendPort s (.lattice p) (knownDesc s q m) m
  | .adit a => sendPort s (.adit a) (knownDesc s q m) m
  | .stage => s
  | .none => s

/-- A quern sends down one of its inputs (R14). -/
def quernDown (s : State) (q : Nat) (c : InCfg) (m : Message) : State :=
  let m := { m with span := c.span }
  match c.src with
  | .tap t => post s (arriveDown (.tap t) m)
  | .quern q' => post s (arriveDown (.quern q') m)
  | .lattice p => sendPort s (.lattice p) (knownDesc s q m) m
  | .adit a => sendPort s (.adit a) (knownDesc s q m) m
  | .none => s

/-- Down every present input, ascending. -/
def quernDownAll (s : State) (q : Nat) (m : Message) : State :=
  forAll (inputsOf s q) s fun s c => quernDown s q c m

/-! ### Failures -/

/-- A failure with its sump record (R136, R369, R370), and a continuation whose CONTEXT is `more`, if anything. `input` is DETAIL
[15:8]. -/
def failureMore (s : State) (code kind obj plane contrib input cause : Nat) (bucket : U32) (step : U64) (more : Option U64) :
    State × FailInfo :=
  let detail := input % 256 * 256 + cause % 256
  let r := sumpRec code 0 kind obj plane contrib detail (u64 (bucket.toNat * 2 ^ 32 + step.toNat % 2 ^ 32))
  let s := sumpWrite2 s r (more.map (sumpRec code 3 kind obj plane contrib detail))
  (s, { code := code, nodeId := u32 (nodeId s), contrib := contrib, plane := plane, objKind := kind, obj := obj
        cause := cause, sumpSeq := sumpSeqOf s r })

/-- A failure whose record needs no continuation. -/
def failure (s : State) (code kind obj plane contrib input cause : Nat) (bucket : U32) (step : U64) : State × FailInfo :=
  failureMore s code kind obj plane contrib input cause bucket step none

/-- The ABORT that carries a failure. -/
def abortMsg (plane : Nat) (bucket : U32) (step : U64) (attempt run : Nat) (f : FailInfo) : Message :=
  { code := .abort, plane := plane, bucket := bucket, step := step, attempt := attempt, run := run, body := .fail f }

/-- The failure a message carries. -/
def failInfoOf (m : Message) : FailInfo :=
  match m.body with
  | .fail f => f
  | _ => noFail

/-- T_BUCKET_SITE and T_BUCKET_ADIT, in µs: a wait keeps the values under which it began (R226). -/
def bucketLimits (s : State) : Nat × Nat := (odGet s 0x6020 0x01, odGet s 0x6020 0x02)

/-- The limit of a bucket timer (R219, R221). -/
def limitOf (l : Nat × Nat) (adit : Bool) : Nat := if adit then l.2 else l.1

/-- Whether any active plane crosses an adit (R221). -/
def crossesAdit (s : State) : Bool := (activePlanes s).any fun k => cfg s (0x2210 + k) 0x0B == 1

/-- Whether any plane of the instance is draining or drained (R420). -/
def anyDraining (s : State) : Bool :=
  (List.range s.params.planes).any fun k => planeState s k == 2 || planeState s k == 3

/-- The reserved object range's counters of tap `t`. -/
def tapCnt (s : State) (t sub : Nat) : State := cnt s (0x7080 + t) sub

end Sys2Proof.Machine
end

