-- ==== Sys2Proof/Machine/Checks.lean ====
section
/-! DEFINITION. The checks a tap makes when a descriptor starts (R121), in their order, with the CAUSE of R439, the memory
regions they look at (R148, R149, R151), and the duplicate window (R127, R128). -/

namespace Sys2Proof.Machine

/-! ### Regions (R148, R149, R122) -/

/-- A memory region. -/
structure Region where
  base : Nat
  size : Nat
  perm : Nat
  deriving DecidableEq, Repr

/-- A valid region (R149). DEDUCED (log entry 91). -/
def Region.valid (r : Region) : Bool :=
  r.size != 0 && r.base % 4096 == 0 && r.size % 4096 == 0 && r.base + r.size ≤ 2 ^ 64

/-- Region object `r`; the reserved bits of PERM read 0 (R3). -/
def regionAt (s : State) (r : Nat) : Region :=
  { base := odGet s (0x3100 + r) 1, size := odGet s (0x3100 + r) 2, perm := odGet s (0x3100 + r) 3 % 32 }

/-- The valid regions that tap `t` names in its slots. -/
def tapRegions (s : State) (t : Nat) : List Region :=
  ((List.range 8).filterMap fun i =>
    let r := odGet s (0x3000 + t) (0x10 + i)
    if r < 256 then some (regionAt s r) else none).filter Region.valid

/-- Whether [addr, addr + size) lies within one region of the tap that has permission bit `perm`. -/
def inRegion (s : State) (t addr size perm : Nat) : Bool :=
  (tapRegions s t).any fun r => bitOf r.perm perm && r.base ≤ addr && addr + size ≤ r.base + r.size

/-- Whether the tap has a valid completion queue (R151). -/
def cqValid (s : State) (t : Nat) : Bool :=
  inRegion s t (odGet s (0x3000 + t) 0x08) (64 * cqSize s t) 2

/-! ### Check steps (R121): each line is a condition that refuses, its code and its CAUSE -/

/-- A check: whether it fails, with what code and CAUSE. -/
abbrev Check := Bool × Nat × Nat

/-- The first check that fails. -/
def firstFail : List Check → Option (Nat × Nat)
  | [] => none
  | (bad, code, cause) :: r => if bad then some (code, cause) else firstFail r

/-- E_DESC_FORMAT naming a word and bit. -/
def badFormat (bad : Bool) (word bit : Nat) : Check := (bad, 0x0008, word * 256 + bit)

/-- The number of low bits of word 6 that R108 names. -/
def word6Named (d : Desc) : Nat :=
  if d.func == 3 then 64
  else if d.op == 1 || d.op == 4 then 24
  else if d.op == 3 || d.op == 5 then 32
  else 0

/-- Step 1: reserved bits and codes. -/
def checkCodes (d : Desc) : List Check :=
  [badFormat (d.op == 0 || 9 < d.op) 0 56,
   badFormat (11 < d.func) 0 52,
   badFormat (5 < d.disc) 0 48,
   badFormat (d.fmtIn == 15) 0 44,
   badFormat (bitOf d.round 3) 0 39,
   badFormat (d.outRnd == 3) 0 36,
   badFormat (bitsOf d.flags 15 8 != 0) 2 8,
   badFormat (if d.tailEn then d.tailAction != 1 && d.tailAction != 2 else d.tailFlag != 0 || d.tailAction != 0) 5 0,
   badFormat (d.w6.toNat >>> word6Named d != 0) 6 (word6Named d % 64),
   badFormat (d.drainSrc && d.src >>> 16 != 0) 3 16]

/-- SUM, NORM2 or FACTOR. -/
def sumLike (d : Desc) : Bool := d.func == 1 || d.func == 2 || d.func == 3

/-- FUNC codes that the OP allows (R103). -/
def opFuncs (op : Nat) : List Nat :=
  match op with
  | 1 => [1, 2, 4, 5, 6, 7, 8, 9, 10, 11]
  | 2 => [1, 2, 3, 4, 5, 6, 7, 8, 9, 10, 11]
  | 3 => [1, 2, 3, 4, 5, 8, 9, 10, 11]
  | _ => [0]

/-- FMT_IN codes that the function and discipline allow (R35, R36, R29). -/
def fmtInOf (d : Desc) : List Nat :=
  if sumLike d then
    match d.disc with
    | 1 => [0, 1, 2, 3, 4, 5, 6, 7, 8, 9, 10, 11, 13]
    | 2 => [0, 1, 2, 3, 4, 5, 6, 7, 8, 9, 10, 11, 13, 14]
    | 5 => [0, 1, 2, 5, 6, 7, 8, 9, 10]
    | _ => [0, 1, 2, 3, 4]
  else
    match d.func with
    | 4 => [0, 1, 2, 3, 4, 11]
    | 5 => [0, 1, 2, 3, 4, 11]
    | 6 => [0, 1, 2, 11]
    | 7 => [0, 1, 2, 11]
    | 8 => [12]
    | 9 => [12]
    | 10 => [12]
    | 11 => [0, 1, 2, 3, 4, 5, 6, 7, 8, 9, 10, 11, 13, 14]
    | _ => [0, 1, 2, 3, 4, 5, 6, 7, 8, 9, 10, 11, 12, 13, 14]

/-- FMT_OUT codes that go with them (R35, R36, R115). An operation without a use for FMT_OUT is checked in step 3, but the code
INT32 is refused in that field already (R29). -/
def fmtOutOf (d : Desc) : List Nat :=
  if sumLike d then
    let scalar := d.func == 1
    match d.disc with
    | 1 => [0, 1, 2, 3, 4, 5, 6, 7, 8, 9, 10] ++ (if scalar then [13, 15] else [])
    | 2 => [0, 1, 2, 3, 4, 5, 6, 7, 8, 9, 10] ++ (if scalar then [14, 15] else [])
    | 5 => [5, 6, 7, 8, 9, 10]
    | _ => [0, 1, 2, 3, 4, 5, 6, 7, 8, 9, 10]
  else
    match d.func with
    | 4 => if d.fmtIn == 11 then [11] else [d.fmtIn, 0]
    | 5 => if d.fmtIn == 11 then [11] else [d.fmtIn, 0]
    | 6 => [12]
    | 7 => [12]
    | 8 => [12]
    | 9 => [12]
    | 10 => [12]
    | 11 => [11]
    | _ =>
      if d.op == 4 || d.op == 5 then [d.fmtIn]
      else [0, 1, 2, 3, 4, 5, 6, 7, 8, 9, 10, 12, 13, 14, 15]

/-- Whether ANCHOR and ANCHOR_AUTO break R67, and which of them is named (R439). -/
def anchorChecks (d : Desc) : List Check :=
  if d.exact then []
  else if d.disc == 5 then
    [badFormat (decide (d.anchor < -127) || decide (scaleLimit (fmtTy d.fmtOut) < d.anchor)) 2 16,
     badFormat (d.auto && d.anchor != 0) 2 3]
  else
    [badFormat (d.anchor != 0 && !(d.disc == 0 && d.func == 11 && isSinter d.fmtIn)) 2 16,
     badFormat d.auto 2 3]

/-- Step 2: combinations, for the contributor `c`. -/
def checkCombinations (s : State) (d : Desc) (c : Nat) : List Check :=
  [badFormat (!(opFuncs d.op).contains d.func) 0 52,
   badFormat (sumLike d == (d.disc == 0)) 0 48,
   badFormat (!(fmtInOf d).contains d.fmtIn) 0 44,
   badFormat (!(fmtOutOf d).contains d.fmtOut) 0 40,
   badFormat (!sumLike d && d.round != 0) 0 (if d.outRnd != 0 then 36 else 38),
   badFormat (d.srRound && !(d.exact || d.disc == 5)) 0 38] ++
  anchorChecks d ++
  [badFormat (d.frozen && !(1 ≤ d.op && d.op ≤ 3 && sumLike d)) 2 0,
   badFormat (d.digestEn && (d.op == 6 || d.op == 7 || d.op == 9)) 2 2,
   badFormat (d.drainSrc && !(d.op ≤ 3 || d.op == 5 || d.op == 8 || (d.op == 4 && d.target == c))) 2 4,
   badFormat (d.handover && !(sumLike d && (d.op == 2 || d.op == 3 || (d.op == 1 && d.target == c)))) 2 5,
   badFormat (d.lastInStep && (d.op == 8 || d.op == 9)) 2 6,
   badFormat (d.handover && !s.params.handover) 2 5]

/-- The fields that must be 0 for the OP (R111). -/
def zeroFields (d : Desc) (c : Nat) : List Check :=
  let src := badFormat (d.src != 0) 3 0
  let dst := badFormat (d.dst != 0) 4 0
  if d.op == 6 || d.op == 7 || d.op == 9 then
    [src, dst, badFormat (d.count != 0) 2 32, badFormat (d.fmtIn != 0) 0 44, badFormat (d.fmtOut != 0) 0 40,
     badFormat (d.round != 0) 0 36, badFormat (d.w6 != 0) 6 0]
  else if d.op == 8 then [dst, badFormat (d.fmtOut != 0) 0 40, badFormat (d.round != 0) 0 36]
  else if d.op == 1 && d.target != c then [dst]
  else if d.op == 4 && d.target != c then [src]
  else []

/-- Drain relations (R157) on an instance whose cores have `tiles` tiles. -/
def drainChecks (d : Desc) (tiles : Nat) : List Check :=
  if d.drainSrc then
    let n := bitsOf d.src 15 8
    let e := if d.op == 5 then d.part else d.count
    [badFormat (!(d.fmtIn == 0 || isSinter d.fmtIn)) 0 44,
     badFormat (n == 0 || decide (tiles < bitsOf d.src 7 0 + n)) 3 8,
     badFormat (!decide ((n - 1) * 16384 + 1 ≤ e ∧ e ≤ n * 16384)) 2 32]
  else []

/-- Step 3: field relations (R111, R30, R112, R119, R123, R157). -/
def checkRelations (s : State) (d : Desc) (c : Nat) : List Check :=
  let mx := isMx d.fmtIn || isMx d.fmtOut
  let factor := d.func == 3
  let parts := !factor && (d.op == 3 || d.op == 5)
  zeroFields d c ++
  [badFormat (factor && d.count != d.rows * d.cols) 2 32,
   badFormat (factor && d.count == 0 && d.rows != 0) 6 32,
   badFormat (factor && d.count == 0 && d.cols != 0) 6 0,
   badFormat (factor && d.op == 3 && d.rows % d.total != 0) 6 32,
   badFormat (parts && d.count != d.partField * d.total) 2 32,
   badFormat (d.fmtOut == 15 && decide (1 < d.count)) 0 40,
   badFormat (mx && parts && d.partField % 32 != 0) 6 0,
   badFormat (mx && factor && d.cols % 32 != 0) 6 0] ++
  drainChecks d s.params.coreTiles

/-- Step 4: contributor fields. -/
def checkContributor (s : State) (d : Desc) (c : Nat) : List Check :=
  [badFormat (d.contrib != c) 5 16,
   (d.total != occupiedSize s (mergePlane s), 0x0006, 5 * 256 + 40)]

/-- Bytes of the source range that step 5 checks. -/
def srcChecked (d : Desc) (c : Nat) : Nat := if d.drainSrc then 0 else srcBytes d c

/-- Whether a range of a descriptor is out of range: in no region with the permission, or its address sum passes 2^64 - 1 (R122). -/
def badRange (s : State) (t addr size perm : Nat) : Bool := 2 ^ 64 ≤ addr + size || !inRegion s t addr size perm

/-- Step 5: memory (R122). -/
def checkMemory (s : State) (t : Nat) (d : Desc) (c : Nat) : List Check :=
  let n := srcChecked d c
  let m := dstBytes d c
  let align := if isMx d.fmtOut || d.hasStats then 64 else fmtAlign d.fmtOut
  [(n != 0 && (d.src % fmtAlign d.fmtIn != 0 || badRange s t d.src n 0), 0x0007, 3 * 256),
   (m != 0 && (d.dst % align != 0 || badRange s t d.dst m 1), 0x0007, 4 * 256),
   (n != 0 && m != 0 && decide (d.src < d.dst + m ∧ d.dst < d.src + n), 0x0007, 4 * 256)]

/-! ### The duplicate window (R127, R128) -/

/-- Queue entries that stand in the window for a later post: started, and neither refused nor duplicates themselves. -/
def inWindow (f : Flight) : Bool :=
  match f.phase with
  | .queued => false
  | .awaitOriginal => false
  | _ => f.status != 3 && f.status != 1

/-- The queue entries posted before entry `id`. -/
def earlier (x : Tap) (id : Nat) : List Flight := x.queue.takeWhile fun f => f.id != id

/-- The descriptor of the window that has the key of `d`, for the queue entry `id`. -/
def windowDesc (x : Tap) (id : Nat) (d : Desc) : Option Desc :=
  match (earlier x id).find? fun f => inWindow f && f.desc.sameKey d with
  | some f => some f.desc
  | none => (x.dups.find? fun e => e.1.sameKey d).map Prod.fst

/-- The lowest bit set of a word, among the first `fuel`. -/
def lowestBit : Nat → Nat → Nat
  | 0, _ => 0
  | fuel + 1, n => if n % 2 == 1 then 0 else 1 + lowestBit fuel (n / 2)

/-- CAUSE of E_DESC_CONFLICT: the first word in which two descriptors differ and its lowest differing bit (R439). -/
def conflictCause (a b : Desc) : Nat :=
  match (a.words.zip b.words).zipIdx.find? fun p => p.1.1 != p.1.2 with
  | some ((x, y), i) => i * 256 + lowestBit 64 (x ^^^ y).toNat
  | none => 0

/-- What the checks make of the queue entry: start it, refuse it with a code and CAUSE, or treat it as a duplicate. -/
inductive Verdict where
  | start
  | duplicate
  | refuse (code cause : Nat)
  deriving DecidableEq, Repr

/-- The checks of R121 for queue entry `f` of tap `t`. -/
def startCheck (s : State) (t : Nat) (f : Flight) : Verdict :=
  let x := tapAt s t
  let d := f.desc
  let c := x.contrib
  match firstFail (checkCodes d ++ checkCombinations s d c ++ checkRelations s d c ++ checkContributor s d c
      ++ checkMemory s t d c) with
  | some (code, cause) => .refuse code cause
  | none =>
    match windowDesc x f.id d with
    | none => .start
    | some w => if w = d then .duplicate else .refuse 0x0009 (conflictCause w d)

end Sys2Proof.Machine
end

