-- ==== Sys2Proof/Machine/Window.lean ====
section
/-! DEFINITION. The tap window (R137 to R147): posting, the completion queue head, flags (R194 to R201), sluice lines (R204 to
R208) and the poll watchdog (R225). -/

namespace Sys2Proof.Machine

/-! ### Access to the window -/

/-- Whether the tap ignores its core: fenced, being fenced, or in a block reset (R162, R171, R419). -/
def coreOff (s : State) (t : Nat) : Bool :=
  s.resetting || (tapAt s t).ignoreCore || (tapAt s t).state == .fenced

/-- A window write: a wake trigger (R414), ignored where the tap ignores its core. -/
def coreWrite (s : State) (t : Nat) (f : State → State) : State :=
  if coreOff s t then s else f (wakeTrigger s)

/-- A window read: like a write, and it answers 0 where the tap ignores its core. -/
def coreRead (s : State) (t : Nat) (f : State → State) : State :=
  if coreOff s t then emit s (.windowData t 0) else f (wakeTrigger s)

/-- An access that R139 ignores. -/
def ignoredWrite (s : State) (t : Nat) : State := tapCnt s t 0x21

/-- A read that R139 ignores: it returns 0. -/
def ignoredRead (s : State) (t : Nat) : State := emit (tapCnt s t 0x21) (.windowData t 0)

/-- The tap states in which the core's flag and sluice operations take effect (R162). -/
def coreBound (x : Tap) : Bool := x.state == .active || x.state == .saving

/-! ### The poll watchdog (R225) -/

/-- The timer restarts. -/
def dogRestart (s : State) (t : Nat) : State :=
  modTap s t fun x => { x with dog := { x.dog with
    restarted := gtcNow s, fired := false, overdue := false, limit := odGet s 0x6020 0x05 } }

/-- The lowest bit set of a 16-bit value, or 0. -/
def lowLine (v : Nat) : Nat := if v % 65536 = 0 then 0 else lowestBit 16 v

/-- DETAIL of E_WATCHDOG for a poll: a flag, or 0x1000 + a line. -/
def pollDetail (member : BitVec 16) (p : PollMark) : Nat :=
  match p.kind with
  | 0 => 8 * p.at_
  | 1 => p.at_
  | 2 => 0x1000 + lowLine (0xFFFF - p.value % 65536)
  | _ => 0x1000 + lowLine (p.value &&& member.toNat)

/-- The watchdog fires on the last poll. -/
def dogFire (s : State) (t : Nat) : State :=
  let x := tapAt s t
  let detail := match x.dog.last with | some p => pollDetail (sluiceMember s t) p | none => 0
  let s := sump s 0x0017 0 1 t 0xFF 0xFFFFFF detail x.dog.restarted
  let s := tapCnt s t 0x27
  modTap s t fun x => { x with dog := { x.dog with fired := true } }

/-- Whether two polls are of the same word, or of the same flag. -/
def samePoll (a b : PollMark) : Bool := a.kind == b.kind && a.at_ == b.at_ && a.size == b.size

/-- A poll by the core. -/
def pollSeen (s : State) (t : Nat) (p : PollMark) : State :=
  let x := tapAt s t
  let changed := x.dog.polls.any fun q => samePoll p q && q.value != p.value
  let s := modTap s t fun x => { x with dog := { x.dog with
    polls := p :: x.dog.polls.filter fun q => !samePoll p q
    last := some p
    lastAt := s.uptime } }
  if changed then dogRestart s t
  else if x.dog.overdue && !x.dog.fired then dogFire s t
  else s

/-- The timer reaches T_WATCHDOG. `elapsed` in µs. -/
def doPollWatchdog (t elapsed : Nat) (s : State) : State :=
  let d := (tapAt s t).dog
  if elapsed < d.limit || d.fired then s
  else if d.last.isSome && s.uptime < d.lastAt + 1000000 then dogFire s t
  else modTap s t fun x => { x with dog := { x.dog with overdue := true } }

/-! ### Posting (R140 to R142) -/

/-- The tap's next start is offered to it as an event of the die: DESC_START (log entry 4). -/
def kick (s : State) (t : Nat) : State :=
  if (tapAt s t).queue.any fun f => f.phase == .queued then post s (.descStart t) else s

/-- A post of the staged bytes. -/
def doPost (t : Nat) (s : State) : State :=
  let s := dogRestart s t
  let x := tapAt s t
  if x.state != .active then modTap s t fun x => { x with last := 3 }
  else if 64 ≤ x.queue.length || queueFree s t = 0 then
    modTap s t fun x => { x with last := 2, busyCount := if x.busyCount = 0xFFFF then 0xFFFF else x.busyCount + 1 }
  else
    let s := audAdd s (0x3000 + t) 0x05 1
    let s := modTap s t fun x => { x with
      last := 1, nextId := x.nextId + 1, queue := x.queue ++ [{ id := x.nextId, desc := x.stage }] }
    kick (startFabric s) t

/-- DESC_STAGE takes a write that covers word 7. -/
def doDescPost (t : Nat) (w : PostWrite) (s : State) : State :=
  coreWrite s t fun s =>
    doPost t (modTap s t fun x =>
      match w with
      | .word7 v => { x with stage := { x.stage with w7 := v } }
      | .line d => { x with stage := d })

/-- Word `i` of the stage. -/
def stageWord (d : Desc) (i : Nat) (v : U64) : Desc :=
  match i with
  | 0 => { d with w0 := v } | 1 => { d with w1 := v } | 2 => { d with w2 := v } | 3 => { d with w3 := v }
  | 4 => { d with w4 := v } | 5 => { d with w5 := v } | 6 => { d with w6 := v } | _ => { d with w7 := v }

/-- A write of CQ_HEAD (R144). -/
def doCqHead (t : Nat) (v : U64) (s : State) : State :=
  coreWrite s t fun s =>
    let h := v.toNat % 2 ^ 32
    if (h + 2 ^ 32 - cqHead s t) % 2 ^ 32 ≤ cqUsed s t then odSet s (0x3000 + t) 0x07 h else s

/-! ### Flags (R145, R195) -/

/-- FLAG_SET or FLAG_CLEAR at the window. -/
def doFlagWrite (c : Instr) (t : Nat) (v : U64) (set : Bool) (s : State) : State :=
  coreWrite s t fun s =>
    if !coreBound (tapAt s t) then s
    else onCommon s c fun s =>
      if v.toNat >>> 12 != 0 then sump s 0x0013 0 1 t 0xFF 0xFFFFFF 0 v
      else dogRestart (flagOp s v.toNat set) t

/-- A read in FLAG_CLAIM. DEDUCED (log entry 73). -/
def doClaim (c : Instr) (t flag size : Nat) (s : State) : State :=
  coreRead s t fun s =>
    if 4096 ≤ flag then emit s (.windowData t 0)
    else if size != 1 then ignoredRead (sump s 0x0013 0 1 t 0xFF 0xFFFFFF 0 (u64 (0x2000 + flag))) t
    else onCommon s c fun s =>
      let v := if coreBound (tapAt s t) then b2n (s.flags.getLsbD flag) else 0
      let s := if coreBound (tapAt s t) then flagOp s flag false else s
      pollSeen (emit s (.windowData t v)) t ⟨1, flag, 1, v⟩

/-- A read in FLAG_MIRROR, at an offset within it. -/
def doPoll (c : Instr) (t offset size : Nat) (s : State) : State :=
  coreRead s t fun s =>
    if (size == 8 || size == 16 || size == 32 || size == 64) && offset % size == 0 && offset + size ≤ 512 then
      onCommon s c fun s =>
        let v := ((tapAt s t).mirror >>> (8 * offset)).toNat % 2 ^ (8 * size)
        pollSeen (emit s (.windowData t v)) t ⟨0, offset, size, v⟩
    else ignoredRead s t

/-! ### Sluice lines (R204 to R208) -/

/-- Whether some member tap has a pending arrival on line `g`. -/
def arrivalPending (s : State) (g : Nat) : Bool :=
  (List.range s.params.taps).any fun t => (sluiceMember s t &&& (tapAt s t).arrivals).getLsbD g

/-- Line `g` as a mask. -/
def lineBit (g : Nat) : BitVec 16 := (1 : BitVec 16) <<< g

/-- The central unit looks at line `g`: a completed round is released, each member's arrival is cleared and the line is
blanked (R205). DESIGN CHOICE (log entry 8). -/
def sluiceLine (s : State) (g : Nat) : State :=
  if (sluiceAnd s).getLsbD g && !s.blanking.getLsbD g && arrivalPending s g && (g != 15 || s.launch == .idle) then
    { s with
      blanking := s.blanking ||| lineBit g
      taps := s.taps.map fun x => { x with arrivals := x.arrivals &&& ~~~lineBit g } }
  else s

/-- The central unit looks at every line. -/
def sluiceCheck (s : State) : State := forAll (List.range 16) s sluiceLine

/-- A write of SLUICE_ARRIVE (R146, R205, R208). -/
def doSluiceArrive (t : Nat) (v : U64) (s : State) : State :=
  coreWrite s t fun s =>
    if !coreBound (tapAt s t) then s
    else onCommon s (.sluiceArrive t v) fun s =>
      let taken := s.launch != .idle
      let s := if taken && v.getLsbD 15 then sump s 0x0014 0 1 t 0xFF 0xFFFFFF 0 v else s
      let new := BitVec.ofNat 16 v.toNat &&& sluiceMember s t &&& (if taken then 0x7FFF else 0xFFFF)
      sluiceCheck (modTap s t fun x => { x with arrivals := x.arrivals ||| new })

/-- A read of SLUICE_LINES or SLUICE_DRIVE. -/
def doSluicePoll (t : Nat) (drive : Bool) (s : State) : State :=
  coreRead s t fun s =>
    onCommon s (.sluicePoll t drive) fun s =>
      let v := (if drive then sluiceDriveRead s t else sluiceLines s).toNat
      pollSeen (emit s (.windowData t v)) t ⟨if drive then 3 else 2, 0, 8, v⟩

/-- Blanking of line `g` ends, 24 ns after its release. `elapsed` in ns. -/
def doBlankingEnd (g elapsed : Nat) (s : State) : State :=
  if elapsed < 24 || !s.blanking.getLsbD g then s
  else sluiceLine { s with blanking := s.blanking &&& ~~~lineBit g } g

/-- SLUICE_MEMBER takes a new value at once (R207): a tap that leaves a group drops its arrival there. -/
def doSluiceMember (t v : Nat) (s : State) : State :=
  let s := odSet s (0x3000 + t) 0x03 (v % 65536)
  sluiceCheck (modTap s t fun x => { x with arrivals := x.arrivals &&& BitVec.ofNat 16 v, keptDrive := none })

/-! ### The window by offset (R138, R139) -/

/-- A write at a window offset, of any size. -/
def doWindowWrite (t offset size data : Nat) (s : State) : State :=
  coreWrite s t fun s =>
    let v := u64 data
    if offset < 0x40 then
      if size == 64 && offset == 0 then doDescPost t (.line (Desc.ofWords fun i => u64 (data >>> (64 * i)))) s
      else if size == 8 && offset % 8 == 0 then
        if offset == 0x38 then doDescPost t (.word7 v) s
        else modTap s t fun x => { x with stage := stageWord x.stage (offset / 8) v }
      else ignoredWrite s t
    else if 0x1000 ≤ offset && offset < 0x1200 then ignoredWrite s t
    else if 0x2000 ≤ offset && offset < 0x3000 then ignoredWrite s t
    else if [0x40, 0x48, 0x80, 0x88, 0x100, 0x108, 0x180, 0x188, 0x190, 0x200].contains (offset / 8 * 8) then
      if size != 8 || offset % 8 != 0 then ignoredWrite s t
      else
        match offset with
        | 0x88 => doCqHead t v s
        | 0x100 => doFlagWrite (.flagSet t v) t v true s
        | 0x108 => doFlagWrite (.flagClear t v) t v false s
        | 0x180 => doSluiceArrive t v s
        | _ => ignoredWrite s t
    else s

/-- A read at a window offset, of any size. -/
def doWindowRead (t offset size : Nat) (s : State) : State :=
  coreRead s t fun s =>
    let give := fun (v : Nat) => emit s (.windowData t v)
    if offset < 0x40 then ignoredRead s t
    else if 0x1000 ≤ offset && offset < 0x1200 then doPoll (.poll t (offset - 0x1000) size) t (offset - 0x1000) size s
    else if 0x2000 ≤ offset && offset < 0x3000 then doClaim (.claim t (offset - 0x2000) size) t (offset - 0x2000) size s
    else if [0x40, 0x48, 0x80, 0x88, 0x100, 0x108, 0x180, 0x188, 0x190, 0x200].contains (offset / 8 * 8) then
      if size != 8 || offset % 8 != 0 then ignoredRead s t
      else
        match offset with
        | 0x40 => give (postStatus s t)
        | 0x48 => give (queueFree s t)
        | 0x80 => give (cqTail s t)
        | 0x88 => give (cqHead s t)
        | 0x188 => doSluicePoll t false s
        | 0x190 => doSluicePoll t true s
        | 0x200 => give (tapStateWord s t)
        | _ => ignoredRead s t
    else give 0

/-! ### The commands -/

/-- DESC_POST (R142). -/
def execDescPost (t : Nat) (w : PostWrite) (s : State) : Host.Outcome State Fault Refusal := withTap s t (doDescPost t w)
/-- CQ_HEAD_WRITE (R144). -/
def execCqHeadWrite (t : Nat) (v : U64) (s : State) : Host.Outcome State Fault Refusal := withTap s t (doCqHead t v)
/-- FLAG_SET (R195). -/
def execFlagSet (t : Nat) (v : U64) (s : State) : Host.Outcome State Fault Refusal :=
  withTap s t (doFlagWrite (.flagSet t v) t v true)
/-- FLAG_CLEAR (R195). -/
def execFlagClear (t : Nat) (v : U64) (s : State) : Host.Outcome State Fault Refusal :=
  withTap s t (doFlagWrite (.flagClear t v) t v false)
/-- CLAIM (R195). -/
def execClaim (t flag size : Nat) (s : State) : Host.Outcome State Fault Refusal :=
  withTap s t (doClaim (.claim t flag size) t flag size)
/-- POLL (R195). -/
def execPoll (t offset size : Nat) (s : State) : Host.Outcome State Fault Refusal :=
  withTap s t (doPoll (.poll t offset size) t offset size)
/-- SLUICE_POLL (R205). -/
def execSluicePoll (t : Nat) (drive : Bool) (s : State) : Host.Outcome State Fault Refusal :=
  withTap s t (doSluicePoll t drive)
/-- SLUICE_ARRIVE (R205). -/
def execSluiceArrive (t : Nat) (v : U64) (s : State) : Host.Outcome State Fault Refusal :=
  withTap s t (doSluiceArrive t v)
/-- SLUICE_BLANKING_END (R205). -/
def execSluiceBlankingEnd (g elapsed : Nat) (s : State) : Host.Outcome State Fault Refusal :=
  .next (doBlankingEnd g elapsed s)
/-- POLL_WATCHDOG (R225). -/
def execPollWatchdog (t elapsed : Nat) (s : State) : Host.Outcome State Fault Refusal :=
  withTap s t (doPollWatchdog t elapsed)

end Sys2Proof.Machine
end

