-- ==== Sys2Proof/Machine/Gallery.lean ====
section
/-! DEFINITION. The Gallery's rows and entries, STEP_EDDY, and capture (R337 to R344). -/

namespace Sys2Proof.Machine

/-- A request at a package memory port for `n` bytes in the area of `size` bytes at `base`, which the block adds to the base of the port's
window (R430). The port, its tag and the place in the area are free values, and the model holds the data itself. DESIGN CHOICE (log entry
126). -/
def packageRequest (s : State) (base size n : Nat) (write : Bool) : State :=
  if s.params.galleryPackage then
    let v := freeVal s
    emit (useFree s) (.packageRequest (s.params.leafQuerns + v % 4) (v / 4 % 1024)
      (Config.packageWindow (v % 4) + base + v / 4096 % (size + 1 - n)) n write)
  else s

/-- Whether the instance keeps Volxia entries (R340): it has taps. -/
def tapped (s : State) : Bool := s.params.taps != 0

/-- Configured quern inputs of a plane on the instance (R339). -/
def planeInputs (s : State) (k : Nat) : Nat :=
  (List.range s.params.positions).foldl (fun n q =>
    if cfg s (0x2240 + q) 0x01 == k then n + (inputsOf s q).length else n) 0

/-- Bytes of an entry of plane `k`: E of R339 on an instance without taps. -/
def entrySize (s : State) (k : Nat) : Nat := if tapped s then 32 else roundUp (64 + 8 * planeInputs s k) 64

/-- Planes that the instance serves. -/
def servedPlanes (s : State) : List Nat :=
  (List.range s.params.planes).filter fun k => cfg s (0x2210 + k) 0x01 == 1

/-- ENTRY_SIZE (0x5040.05). -/
def entrySizes (s : State) : Nat :=
  if tapped s then 32 else (servedPlanes s).foldl (fun n k => n + entrySize s k) 0

/-- ROW_SLOTS. -/
def rowSlots (s : State) : Nat := odGet s 0x5040 0x03

/-- DEPTH (0x5040.04). -/
def galDepth (s : State) : Nat :=
  if tapped s then (if s.params.galleryPackage then min 4096 (odGet s 0x5040 0x02 / (rowSlots s * 32)) else 64)
  else if entrySizes s = 0 then 0
  else min 4096 (odGet s 0x5040 0x02 / (rowSlots s * entrySizes s))

/-- KIND of an entry. -/
def GalEntry.kind (e : GalEntry) : Nat := fieldOf (e.words.getD 0 0) 15 12

/-- The term of an entry in STEP_EDDY (R342): `outWord` is the word that holds RESULT_W0 or OUT word 0. -/
def galTerm (taps : Bool) (e : GalEntry) : Nat :=
  let w0 := e.words.getD 0 0
  if fieldOf w0 7 0 == 0 && e.kind == 1 then
    let v := ((e.words.getD (if taps then 1 else 4) 0).toNat + 1 + 2 * fieldOf w0 11 11) % eddyP
    let q := if taps then e.bucket else 8 * e.bucket + e.plane
    v * powMod eddyP (eddyKeys.headD 0) 64 (q + 1) % eddyP
  else 0

/-- Same key (R342, R337). -/
def galSame (a b : GalEntry) : Bool := a.bucket == b.bucket && a.sel == b.sel && a.plane == b.plane

/-- An entry put into a row. DEDUCED (log entry 75). -/
def galRowPut (taps : Bool) (r : GalRow) (e : GalEntry) : GalRow :=
  let old := match r.entries.find? (galSame e) with | some o => galTerm taps o | none => 0
  { r with
    entries := if r.entries.any (galSame e) then r.entries.map fun o => if galSame e o then e else o else r.entries ++ [e]
    stepEddy := (r.stepEddy + (eddyP - old) + galTerm taps e) % eddyP }

/-- An entry that is not recorded (R339). -/
def galDrop (s : State) : State := cnt s 0x5040 0x08

/-- An access to the Gallery partition for an entry of plane `k` (R430). -/
def galAccess (s : State) (k : Nat) (write : Bool) : State :=
  packageRequest s (odGet s 0x5040 0x01) (odGet s 0x5040 0x02) (entrySize s k) write

/-- Record an entry of a STEP. DEDUCED (log entry 75). -/
def galRecord (s : State) (step : U64) (e : GalEntry) : State :=
  let g := s.gallery
  match g.rows.find? fun r => r.step == step with
  | some r =>
    if !(r.entries.any (galSame e)) && rowSlots s ≤ (r.entries.filter fun o => o.plane == e.plane || tapped s).length then galDrop s
    else galAccess { s with gallery := { g with rows := g.rows.map fun x => if x.step == step then galRowPut (tapped s) x e else x } } e.plane true
  | none =>
    if galDepth s = 0 || (!g.rows.isEmpty && g.rows.all fun r => step.toNat < r.step.toNat) then galDrop s
    else
      let kept := g.rows.drop (g.rows.length + 1 - galDepth s)
      galAccess { s with gallery := { g with
          rows := kept ++ [galRowPut (tapped s) { step := step, entries := [], stepEddy := 0 } e] } } e.plane true

/-- Word 0 of an entry (R340). DEDUCED (log entry 75). -/
def galWord0 (bucket prov kind : Nat) (frozen retry replaned outRange : Bool) (status : Nat) : U64 :=
  u64 (bucket % 2 ^ 32 * 2 ^ 32 + prov % 65536 * 2 ^ 16 + kind % 16 * 2 ^ 12 + b2n frozen * 2 ^ 11 + b2n retry * 2 ^ 10
    + b2n replaned * 2 ^ 9 + b2n outRange * 2 ^ 8 + status % 256)

/-! ### A tap's record (R337) -/

/-- What is collected of OWN for a key: the run, and the digests by leaf quern and plane. -/
def ownOf (s : State) (bucket : U32) (step : U64) : Option (Nat × List (Nat × List Nat)) :=
  (s.gallery.own.find? fun o => o.1 == bucket.toNat && o.2.1 == step.toNat).map fun o => o.2.2

/-- The state without it. -/
def dropOwn (s : State) (bucket : U32) (step : U64) : State :=
  { s with gallery := { s.gallery with own := s.gallery.own.filter fun o => !(o.1 == bucket.toNat && o.2.1 == step.toNat) } }

/-- The OWN digest collected for a key, and the state without it (R338). -/
def takeOwn (s : State) (bucket : U32) (step : U64) : List Nat × State :=
  let d := match ownOf s bucket step with | some o => o.2.foldl (fun a x => eddyAdd a x.2) eddyZero | none => eddyZero
  (d, dropOwn s bucket step)

/-- A leaf quern's output digest of a plane for a key: it takes the place of that of an earlier attempt, and a new run starts anew. -/
def addOwn (s : State) (bucket : U32) (step : U64) (run key : Nat) (d : List Nat) : State :=
  let l := match ownOf s bucket step with | some o => if o.1 == run then o.2 else [] | none => []
  let s := dropOwn s bucket step
  { s with gallery := { s.gallery with own := s.gallery.own ++ [(bucket.toNat, step.toNat, run, assocPut key d l)] } }

/-- The entry of a plane operation or DIGEST whose record a tap has written. -/
def galTapEntry (f : Flight) (contrib : Nat) (own : List Nat) : GalEntry :=
  let ok := f.status == 0
  let local_ := f.desc.op == 8
  let live := ok && !f.desc.frozen
  { bucket := f.desc.bucket.toNat
    sel := if local_ then contrib else 0xFFFFFF
    plane := 0
    words :=
      [galWord0 f.desc.bucket.toNat f.desc.prov (if local_ then 2 else 1) f.desc.frozen f.retryRan f.replaned
         (ok && f.outRange) (if ok then 0 else 2),
       u64 (if live then (resultEddy f).headD 0 else 0),
       u64 (if local_ then contrib else if live then own.headD 0 else 0),
       u64 (if live then (statsEddyOf f.stats).headD 0 else 0)]
    inputs := [] }

/-- The taps that hold a contributor index. -/
def boundTaps (s : State) : List Nat := (List.range s.params.taps).filter fun t => tapBound (tapAt s t).state

/-- A tap has written the completion record of a started descriptor: the Gallery records the bucket at the first of them. -/
def galTapRecord (s : State) (t : Nat) (f : Flight) : State :=
  if !f.desc.digestEn || !tapped s then s
  else if f.desc.op == 8 then galRecord s f.desc.step (galTapEntry f (tapAt s t).contrib eddyZero)
  else
    let same := fun (o : Nat × Nat × List Nat) => o.1 == f.desc.bucket.toNat && o.2.1 == f.desc.step.toNat
    let seen := match s.gallery.recorded.find? same with | some o => o.2.2 | none => []
    let put := fun (s : State) (ts : List Nat) =>
      let rest := s.gallery.recorded.filter fun o => !same o
      let done := (boundTaps s).all fun u => ts.contains u
      { s with gallery := { s.gallery with
          recorded := if done then rest else rest ++ [(f.desc.bucket.toNat, f.desc.step.toNat, ts)] } }
    if seen.isEmpty || seen.contains t then
      let (own, s) := takeOwn s f.desc.bucket f.desc.step
      put (galRecord s f.desc.step (galTapEntry f 0 own)) [t]
    else put s (t :: seen)

/-! ### Capture (R344) -/

/-- Whether capture is armed for the key. -/
def capArmedFor (s : State) (bucket : U32) (step : U64) : Bool :=
  odGet s 0x5050 0x04 == 1 && odGet s 0x5050 0x01 == bucket.toNat && odGet s 0x5050 0x02 == step.toNat

/-- The capture table's key, by quern number. -/
def capKey (q plane port : Nat) : Nat := (q * 8 + plane) * 32 + port

/-- Whether the key has closed at every quern, each on every plane of its position, and all in run and attempt `r`. -/
def capAll (s : State) (r : Nat) : Bool :=
  (List.range s.params.positions).all fun q =>
    (inputsOf s q).isEmpty ||
      (planesOf s q).all fun k => assocGet (((quernAt s q).server.getD q) * 8 + k) s.gallery.capRuns == some r

/-- Quern `n` has closed the captured bucket, in run and attempt `r`, which may still be superseded: `ds` are its digests by port. -/
def capStore (s : State) (n plane : Nat) (bucket : U32) (step : U64) (r : Nat) (ds : List (Nat × List Nat)) : State :=
  if capArmedFor s bucket step then
    let ds := if ds.any fun d => d.1 == 16 then ds else (16, eddyZero) :: ds
    let old := s.gallery.capture.filter fun c => c.1 / 32 != n * 8 + plane
    let tbl := ds.foldl (fun t d => assocPut (capKey n plane d.1) d.2 t) old
    let s := { s with gallery := { s.gallery with capture := tbl, capRuns := assocPut (n * 8 + plane) r s.gallery.capRuns } }
    if capAll s r then odSet s 0x5050 0x04 2 else s
  else s

/-- A captured bucket that fails leaves capture armed; what was stored of it goes. -/
def capFail (s : State) (bucket : U32) (step : U64) : State :=
  if capArmedFor s bucket step then { s with gallery := { s.gallery with capture := [], capRuns := [] } } else s

/-- The captured digest words of quern `q` at a port: the sum over the planes of the quern (R338). -/
def capWords (s : State) (q port : Nat) : List Nat :=
  (List.range 8).foldl (fun a k =>
    match assocGet (capKey q k port) s.gallery.capture with | some d => eddyAdd a d | none => a) eddyZero

end Sys2Proof.Machine
end

