-- ==== Sys2Proof/Machine/Image.lean ====
section
/-! DEFINITION. The context image as the 48 KiB of R165, written from its fields and read back. -/

namespace Sys2Proof.Machine

/-- Words from offset `o` of an image. -/
def wordsAt (bs : List Byte) (o n : Nat) : List U64 := (List.range n).map fun j => wordAt bs (o + 8 * j)

/-- The descriptor at offset `o`. -/
def descAt (bs : List Byte) (o : Nat) : Desc := Desc.ofWords fun j => wordAt bs (o + 8 * j)

/-- The header words. -/
def imageHeader (i : CtxImage) : Words :=
  [u64 (i.contrib % 2 ^ 24 * 2 ^ 32 + i.originTap % 256 * 2 ^ 16 + i.version % 65536),
   u64 (i.dupWindow.length % 1024 * 2 ^ 32 + i.inFlight.length % 256 * 2 ^ 24 + i.unstarted.length % 256 * 2 ^ 16 + i.treeEpoch % 65536),
   i.gtcSaved, i.gtcFinal, u64 (i.sluiceDrive.toNat * 2 ^ 16 + i.sluiceMember.toNat), 0, 0, 0]

/-- Queue position words. -/
def imageQueue (i : CtxImage) : Words :=
  [u64 (i.posted.toNat * 2 ^ 32 + i.busyCount.toNat * 2 ^ 16), u64 (i.cqTail.toNat * 2 ^ 32 + i.cqHead.toNat), i.cqBase,
   u64 i.cqSize.toNat, 0, 0, 0, 0]

/-- The counters of plane `k`: issued, delivered, credits, accepted. -/
def imageCounters (i : CtxImage) (k : Nat) : Words :=
  let c := fun (j : Nat) => ((i.counters.getD k []).getD j 0).toNat
  [u64 (c 1 * 2 ^ 32 + c 0), u64 (c 3 * 2 ^ 32 + c 2)]

/-- The bytes of an image (R165). -/
def imageBytes (i : CtxImage) : List Byte :=
  wordsToBytes (imageHeader i ++ imageQueue i ++ (List.range 8).flatMap (imageCounters i) ++ i.stage.words ++ List.replicate 24 0)
    ++ natToBytes i.flags.toNat 512
    ++ padTo 8192 (wordsToBytes (i.inFlight.flatMap fun e => e.desc.words ++ (List.range 8).map fun j => e.state.getD j 0))
    ++ padTo 4096 (wordsToBytes (i.unstarted.flatMap Desc.words))
    ++ padTo 32768 (wordsToBytes (i.dupWindow.flatMap Desc.words))
    ++ List.replicate 3072 0

/-- The fields of an image that is read; reserved words are not looked at (R3). -/
def imageOfBytes (bs : List Byte) : CtxImage :=
  let w := fun (o : Nat) => (wordAt bs o).toNat
  { version := bitsOf (w 0) 15 0, originTap := bitsOf (w 0) 23 16, contrib := bitsOf (w 0) 55 32, treeEpoch := bitsOf (w 8) 15 0
    gtcSaved := wordAt bs 16, gtcFinal := wordAt bs 24
    sluiceMember := BitVec.ofNat 16 (w 32), sluiceDrive := BitVec.ofNat 16 (w 32 / 2 ^ 16)
    posted := u32 (bitsOf (w 0x40) 63 32), busyCount := BitVec.ofNat 16 (w 0x40 / 2 ^ 16)
    cqTail := u32 (bitsOf (w 0x48) 63 32), cqHead := u32 (bitsOf (w 0x48) 31 0), cqBase := wordAt bs 0x50
    cqSize := u32 (bitsOf (w 0x58) 31 0)
    counters := (List.range 8).map fun k =>
      let a := w (0x80 + 16 * k)
      let b := w (0x88 + 16 * k)
      [u32 (bitsOf a 31 0), u32 (bitsOf a 63 32), u32 (bitsOf b 31 0), u32 (bitsOf b 63 32)]
    stage := descAt bs 0x100, flags := BitVec.ofNat 4096 (bytesToNat ((bs.drop 0x200).take 512))
    inFlight := (List.range (min 64 (bitsOf (w 8) 31 24))).map fun j =>
      { desc := descAt bs (0x400 + 128 * j), state := wordsAt bs (0x440 + 128 * j) 8 }
    unstarted := (List.range (min 64 (bitsOf (w 8) 23 16))).map fun j => descAt bs (0x2400 + 64 * j)
    dupWindow := (List.range (min 512 (bitsOf (w 8) 41 32))).map fun j => descAt bs (0x3400 + 64 * j) }

end Sys2Proof.Machine
end

