-- ==== Sys2Proof/Machine/Completion.lean ====
section
/-! DEFINITION. A tap's memory port (R152, R154, R430), the context image (R165, R166), and the end of a descriptor: settling,
tail flag, handover, fences, the completion record and what follows it (R110, R117, R127, R143, R189, R202, R420). -/

namespace Sys2Proof.Machine

/-! ### Queue entries -/

/-- Queue entry `id` of tap `t`. -/
def flightAt (s : State) (t id : Nat) : Option Flight := (tapAt s t).queue.find? fun f => f.id == id

/-- Change queue entry `id` of tap `t`. -/
def modFlight (s : State) (t id : Nat) (g : Flight → Flight) : State :=
  modTap s t fun x => { x with queue := x.queue.map fun f => if f.id == id then g f else f }

/-- Continue with queue entry `id`, if it is there. -/
def onFlight (s : State) (t id : Nat) (g : State → Flight → State) : State :=
  match flightAt s t id with
  | some f => g s f
  | none => s

/-! ### The memory port -/

/-- A request at the port: data and byte mask cover whole lines. -/
def memOut (t : Nat) (tag : Nat) (r : MemReq) : Output :=
  let n := r.lines * 64
  let pad := n - (r.skip + r.data.length)
  if r.write then
    .memRequest (t / 16) tag r.addr r.lines true
      (List.replicate r.skip 0 ++ r.data ++ List.replicate pad 0)
      (List.replicate r.skip false ++ r.data.map (fun _ => true) ++ List.replicate pad false)
  else .memRequest (t / 16) tag r.addr r.lines false [] []

/-- Waiting requests take the free tags, in order. -/
def issueMem (t : Nat) : List Nat → List MemReq → List MemReq × List Output
  | _, [] => ([], [])
  | free, r :: rs =>
    match r.tag, free with
    | none, n :: free' =>
      let (a, b) := issueMem t free' rs
      ({ r with tag := some n } :: a, memOut t n r :: b)
    | _, _ =>
      let (a, b) := issueMem t free rs
      (r :: a, b)

/-- The 64 tags of tap `t` at its port. -/
def tapTags (t : Nat) : List Nat := (List.range 64).map fun i => 64 * (t % 16) + i

/-- Issue what may be issued: at most 64 requests of a tap are outstanding (R152). -/
def pumpMem (s : State) (t : Nat) : State :=
  let used := (tapAt s t).mem.filterMap fun r => r.tag
  let (m, os) := issueMem t ((tapTags t).filter fun n => !used.contains n) (tapAt s t).mem
  let s := modTap s t fun x => { x with mem := m }
  { s with outs := s.outs ++ os }

/-- The parts of [a, a + n) in 256-byte aligned blocks, ascending. -/
def blockParts : Nat → Nat → Nat → List (Nat × Nat)
  | 0, _, _ => []
  | fuel + 1, a, n =>
    if n = 0 then [] else (a, min n (256 - a % 256)) :: blockParts fuel (a + min n (256 - a % 256)) (n - min n (256 - a % 256))

/-- A request for the bytes [a, a + n) of one block. -/
def lineReq (id : Nat) (role : MemRole) (a n : Nat) (write : Bool) (data : List Byte) : MemReq :=
  { tag := none, id := id, role := role, addr := a / 64 * 64, lines := (a % 64 + n + 63) / 64, skip := a % 64
    write := write, data := data }

/-- Reads of `n` bytes at `a` that are source bytes from `off` on. -/
def readReqs (id off a n : Nat) : List MemReq :=
  (blockParts (n / 256 + 2) a n).map fun (b, k) => lineReq id (.source (off + (b - a))) b k false []

/-- Writes of `bs` at `a`. -/
def writeReqs (id : Nat) (role : MemRole) (a : Nat) (bs : List Byte) : List MemReq :=
  (blockParts (bs.length / 256 + 2) a bs.length).map fun (b, k) => lineReq id role b k true ((bs.drop (b - a)).take k)

/-- Requests added and issued. -/
def addMem (s : State) (t : Nat) (rs : List MemReq) : State :=
  pumpMem (modTap s t fun x => { x with mem := x.mem ++ rs }) t

/-- Whether DST, statistics or retention writes of entry `id` are outstanding. -/
def writesLeft (x : Tap) (id : Nat) : Bool :=
  x.mem.any fun r => r.id == id && (match r.role with | .dst => true | .retain _ => true | _ => false)

/-- Whether retention writes of entry `id` are outstanding. -/
def retainLeft (x : Tap) (id : Nat) : Bool :=
  x.mem.any fun r => r.id == id && (match r.role with | .retain _ => true | _ => false)

/-- Source reads of entry `id` that are not issued are given up; those outstanding no longer count. -/
def dropReads (s : State) (t id : Nat) : State :=
  modTap s t fun x => { x with
    mem := x.mem.filter fun r => !(r.id == id && r.tag.isNone && (match r.role with | .source _ => true | _ => false)) }

/-! ### The context image (R165, R166) -/

/-- The state block of an in-flight entry. -/
def stateBlock (f : Flight) : Words :=
  let e := resultEddy { f with eddies := f.eddies.filter fun e => f.delivered.contains e.1 }
  [u64 (patternOf f.anchor 16 * 2 ^ 16 + f.run % 8 * 2 ^ 12 + (match f.slot with | some n => n + 1 | none => 0) * 2 ^ 10
      + b2n f.prepassDone * 2 ^ 9 + b2n f.retryRan * 2 ^ 8 + planesDone f),
   f.gtcStart, u64 (e.getD 0 0), u64 (e.getD 1 0), u64 (e.getD 2 0), u64 (e.getD 3 0), 0, 0]

/-- The per-plane counters of R165: issued, delivered, credits, accepted. -/
def tapCounters (s : State) (t : Nat) : List (List U32) :=
  (List.range 8).map fun k => [0x01, 0x09, 0x19, 0x11].map fun b => u32 (odGet s (0x7080 + t) (b + k))

/-- The entries of the queue that have started. -/
def startedOf (x : Tap) : List Flight := x.queue.filter fun f => f.phase != .queued

/-- In-flight table. -/
def inFlightTable (x : Tap) : List ImageEntry := (startedOf x).map fun f => { desc := f.desc, state := stateBlock f }

/-- The image of a tap. -/
def imageOf (s : State) (t : Nat) : CtxImage :=
  let x := tapAt s t
  { version := 1, originTap := t, contrib := x.contrib, treeEpoch := lastEpoch s, gtcSaved := x.ctx.gtcSaved
    gtcFinal := x.ctx.gtcFinal, sluiceMember := sluiceMember s t, sluiceDrive := sluiceDrive s t
    posted := u32 (odGet s (0x3000 + t) 0x05), busyCount := x.busyCount, cqTail := u32 (cqTail s t)
    cqHead := u32 (cqHead s t), cqBase := u64 (odGet s (0x3000 + t) 0x08), cqSize := u32 (cqSize s t)
    counters := tapCounters s t, stage := x.stage, flags := x.mirror, inFlight := inFlightTable x
    unstarted := (x.queue.filter fun f => f.phase == .queued).map (·.desc), dupWindow := x.dups.map Prod.fst }

/-- The image of a PARKED tap, with its counter words and in-flight table rewritten (R164). -/
def imageAgain (s : State) (t : Nat) (i : CtxImage) : CtxImage :=
  let x := tapAt s t
  { i with posted := u32 (odGet s (0x3000 + t) 0x05), busyCount := x.busyCount, cqTail := u32 (cqTail s t)
           cqHead := u32 (cqHead s t), counters := tapCounters s t, inFlight := inFlightTable x
           gtcFinal := x.ctx.gtcFinal }

/-- Write an image at CTX_ADDR, as its 48 KiB, and keep it (R165). -/
def putImage (s : State) (t : Nat) (i : CtxImage) : State :=
  let s := modTap s t fun x => { x with ctx := { x.ctx with image := some i } }
  emit s (.imageWrite t (u64 (odGet s (0x3000 + t) 0x0C)) (imageBytes i))

/-- The tap leaves PARKED: UNBOUND, or FENCED after a FENCE (R164, R171). -/
def leaveParked (s : State) (t : Nat) : State :=
  modTap s t fun x => { x with
    state := if x.ctx.fencing then .fenced else .unbound
    ctx := { x.ctx with fencing := false } }

/-- A PARKED tap rewrites its image after a completion, and leaves PARKED with its last one (R164). -/
def parkedStep (s : State) (t : Nat) : State :=
  let x := tapAt s t
  match x.state, x.ctx.image with
  | .parked, some i =>
    if x.queue.isEmpty then
      let s := modTap s t fun x => { x with ctx := { x.ctx with gtcFinal := gtcNow s } }
      leaveParked (putImage s t (imageAgain s t i)) t
    else putImage s t (imageAgain s t i)
  | _, _ => s

/-! ### Holding starts and step boundaries (R420, R425) -/

/-- Whether some bucket of the instance is in REPLAN_WAIT. -/
def anyReplanWait (s : State) : Bool := s.taps.any fun x => x.queue.any fun f => f.phase == .replanWait

/-- Planes in STATE 2 may have become drained. On an instance without taps PLANE_DRAINED comes from outside the model: it stands for
the drained children too (R421). -/
def drainKick (s : State) : State :=
  if s.params.taps = 0 then s
  else forAll ((List.range s.params.planes).filter fun k => planeState s k == 2) s fun s k => post s (.planeDrained k)

/-- A tap holds starts from the first moment of R420; with no plane draining or drained it holds none. `last` says that it has
just written the record of a descriptor with LAST_IN_STEP. -/
def holdCheck (s : State) (t : Nat) (last : Bool) : State :=
  modTap s t fun x => { x with holding := anyDraining s && (x.holding || last || x.queue.isEmpty || anyReplanWait s) }

/-- Every tap looks at R420. -/
def holdAll (s : State) : State := drainKick (forAll (List.range s.params.taps) s fun s t => holdCheck s t false)

/-- A pending microcode swap is offered its step boundary (R425). -/
def swapBoundary (s : State) : State :=
  if odGet s 0x7F00 0x0A == 4 then post s .microcodeSwapExec else s

/-- A pending microcode swap executes at once on an instance that has no active plane any more (R425). -/
def swapUnused (s : State) : State := if (activePlanes s).isEmpty then swapBoundary s else s

/-! ### Arrivals of barriers (R209, R211, R213) -/

/-- Whether every earlier-posted descriptor has its record (R110). DEDUCED (log entry 70). -/
def fenceOk (x : Tap) (f : Flight) : Bool := (earlier x f.id).isEmpty

/-- The failure a tap raises: kind 1, its own index named (R370). -/
def tapFailure (s : State) (t : Nat) (f : Flight) (code plane contrib input : Nat) : State × FailInfo :=
  failure s code 1 t plane contrib input 0 f.desc.bucket f.desc.step

/-- The summary of the tap for plane `k`, with its audit (R213). DEDUCED (log entry 72). -/
def tapSummary (s : State) (t k : Nat) : State × StepSummary :=
  let c := fun (b : Nat) => odGet s (0x7080 + t) (b + k)
  let x := tapAt s t
  let audit := fun (code want found : Nat) =>
    let r := sumpRec code 0 1 t k x.contrib 0xFF (u64 (want * 2 ^ 32 + found))
    let s := sumpWrite2 s r none
    (s, some ({ code := code, nodeId := u32 (nodeId s), contrib := x.contrib, plane := k, objKind := 1, obj := t
                cause := 0, sumpSeq := sumpSeqOf s r } : FailInfo))
  let (s, fail) :=
    if c 0x01 != c 0x09 then audit 0x0012 (c 0x01) (c 0x09)
    else if c 0x19 != 0 then audit 0x0011 0 (c 0x19)
    else (s, none)
  (s, { issued := u32 (c 0x01), delivered := u32 (c 0x09), accepted := u32 (c 0x11), credits := u32 (c 0x19), fail := fail })

/-- The arrival of a BARRIER or STEP_BARRIER on plane `k`. -/
def sendArrivalOn (s : State) (t : Nat) (f : Flight) (k : Nat) : State :=
  let m : Message :=
    { code := .barrierArrive, plane := k, bucket := f.desc.bucket, step := f.desc.step, run := f.run
      agree := some (f.desc.agreement f.desc.anchor) }
  if f.desc.op == 7 then
    let (s, u) := tapSummary s t k
    tapUp s t { m with code := .stepArrive, body := .summary u }
  else tapUp s t m

/-- The arrival on every active plane. -/
def sendArrival (s : State) (t id : Nat) : State :=
  onFlight s t id fun s f =>
    forAll f.planes (modFlight s t id fun f => { f with phase := .running }) fun s k => sendArrivalOn s t f k

/-! ### Records -/

/-- The completion record of an entry whose STATUS is known. -/
def formRecord (f : Flight) : Words :=
  if f.status == 0 then completionRecord f 0 0 ((resultEddy f).map u64)
  else completionRecord f f.status f.code (failWords (f.failed.getD noFail))

/-- The tail flag of an entry that ended with STATUS OK (R117, R202, R203). -/
def applyTail (s : State) (f : Flight) : State :=
  if f.status == 0 && f.desc.tailEn then flagOp s f.desc.tailFlag (f.desc.tailAction == 1) else s

/-- The head of the tap's record queue is written (R143), its tail flag first (R117, R203): one record is on its way at a time.
DEDUCED (log entry 67). -/
def tryRecord (s : State) (t : Nat) : State :=
  let x := tapAt s t
  if x.mem.any fun r => r.role == .record then s
  else
    match x.recQ with
    | [] => s
    | id :: _ =>
      onFlight s t id fun s f =>
        let w := stampRecord (gtcNow s) f.record
        let s := if f.tailDone then s else applyTail s f
        let s := modFlight s t id fun f => { f with record := w, tailDone := true }
        addMem s t (writeReqs id .record (odGet s (0x3000 + t) 0x08 + 64 * (cqTail s t % cqSize s t)) (wordsToBytes w))

/-- The record of an entry joins the record queue. DEDUCED (log entry 70). -/
def toRecord (s : State) (t id : Nat) : State :=
  onFlight s t id fun s f =>
    let s := modFlight s t id fun g => { g with phase := .recording, record := formRecord f }
    tryRecord (modTap s t fun x => { x with recQ := x.recQ ++ [id] }) t

/-- Whether the record waits for every earlier-posted descriptor (R110). -/
def needsFence (f : Flight) : Bool := f.desc.orderCq || f.desc.op == 9

/-- An entry that has ended, or that is a MARK or refused: to its record, once the order of R110 allows. -/
def fenceFlight (s : State) (t id : Nat) : State :=
  onFlight s t id fun s f =>
    if needsFence f && !fenceOk (tapAt s t) f then modFlight s t id fun f => { f with phase := .fencing }
    else toRecord s t id

/-- The record at the head of the handover queue is offered (R190, R431). -/
def offerHead (s : State) (words : State → Nat → Flight → Words) : State :=
  match s.handoverQ with
  | [] => s
  | (t, id) :: _ => onFlight s t id fun s f => emit s (.handover (words s t f))

/-! ### Tailrace records (R187, R188) -/

/-- The part of the result that is at DST: first element and count (R187); a frozen bucket's is 0 from 0. DESIGN CHOICE (log entry 117). -/
def portionOf (s : State) (t : Nat) (f : Flight) : Nat × Nat :=
  if f.desc.frozen then (0, 0)
  else
    let r := ownRange f.desc (tapRank s t)
    (r.1, r.2 - r.1)

/-- The 16 words of a tailrace record, with the sequence number `seq`. -/
def tailraceWords (s : State) (t : Nat) (f : Flight) (seq : U16) : Words :=
  let d := f.desc
  let p := portionOf s t f
  let hasStats := d.hasStats && !d.frozen
  let w0 := b2n (hasStats && statsNonfinite f.stats) * 2 ^ 56 + b2n (hasStats && statsRange f.stats) * 2 ^ 55
    + b2n f.outRange * 2 ^ 54 + b2n f.retryRan * 2 ^ 53 + b2n d.frozen * 2 ^ 52 + d.fmtOut * 2 ^ 48 + d.disc * 2 ^ 44
    + d.func * 2 ^ 40 + d.op * 2 ^ 32 + d.bucket.toNat + 2 ^ 60
  let w2 := (if d.frozen then 0 else d.count) * 2 ^ 32 + patternOf (anchorCommit f) 16 * 2 ^ 16
  let w6 := if hasStats then (f.stats.getD 0 0).toNat else 0
  let res := resultEddy f
  let st := if hasStats then statsEddyOf f.stats else eddyZero
  let halves := fun (w : Nat) => [w % 2 ^ 32, w / 2 ^ 32]
  let ho := eddy 0 (halves w0 ++ halves d.step.toNat ++ halves w2 ++ halves d.w6.toNat ++ halves w6
    ++ [d.sched % 2 ^ 32, d.sched / 2 ^ 32] ++ res.flatMap halves ++ st.flatMap halves)
  [u64 (w0 + b2n f.replaned * 2 ^ 57), d.step, u64 (w2 + d.prov), d.w4, d.w6, u64 (p.2 * 2 ^ 32 + p.1), u64 w6,
   u64 (d.sched * 2 ^ 16 + seq.toNat)] ++ res.map u64 ++ ho.map u64

/-- The offer of the record at the head of the queue. -/
def offerNext (s : State) : State := offerHead s fun s t f => tailraceWords s t f s.handoverSeq

/-- An offer that is due is made. -/
def offerNow (s : State) : State := if s.offerDue then offerNext { s with offerDue := false } else s

/-! ### Settling (R143, R186, R189) -/

/-- A delivered or failed entry whose writes are visible goes on to handover, and then to its tail flag and record. -/
def settleCheck (s : State) (t id : Nat) : State :=
  onFlight s t id fun s f =>
    if f.phase != .settling || writesLeft (tapAt s t) id || f.drain.reading.isSome then s
    else if f.status == 0 && f.desc.handover then
      let s := modFlight s t id fun f => { f with phase := .offering }
      let first := s.handoverQ.isEmpty
      let s := { s with handoverQ := s.handoverQ ++ [(t, id)] }
      if first then offerNext s else s
    else fenceFlight s t id

/-- Tiles that the tap holds for an entry are released, but for the one it reads and those on their way to the slot (R159). -/
def releaseTiles (s : State) (t id : Nat) : State :=
  onFlight s t id fun s f =>
    let busy := fun (i : Nat) => f.drain.reading == some i ||
      (tapAt s t).mem.any fun r => r.id == id && r.role == .retain i
    let s := forAll (f.drain.held.filter fun i => !busy i) s fun s i => emit s (.tileRelease t (bitsOf f.desc.src 7 0 + i))
    modFlight s t id fun f => { f with drain := { f.drain with
      wanted := false, settled := false, held := f.drain.held.filter busy } }

/-- Plane `k`'s result or commit token counts in ACCEPTED of the tap (R212). DEDUCED (log entry 76). -/
def countIn (s : State) (t id k : Nat) : State :=
  onFlight s t id fun s f =>
    if f.desc.isData && !f.counted.contains k then
      modFlight (audAdd s (0x7080 + t) (0x11 + k) 1) t id fun f => { f with counted := k :: f.counted }
    else s

/-- What the planes `ks` brought no longer counts: the attempt does not commit, or the bucket fails (R92, R212). DEDUCED (log entry 76). -/
def countOut (s : State) (t id : Nat) (ks : List Nat) : State :=
  onFlight s t id fun s f =>
    let s := forAll (f.counted.filter ks.contains) s fun s k => audAdd s (0x7080 + t) (0x11 + k) (2 ^ 32 - 1)
    modFlight s t id fun f => { f with counted := f.counted.filter fun k => !ks.contains k }

/-- Whether an entry of the bucket on a quern of the instance was marked as paused (R223). DEDUCED (log entry 119). -/
def markedHere (s : State) (d : Desc) : Bool :=
  s.querns.any fun q => q.entries.any fun e => e.paused && e.bucket == d.bucket && e.step == d.step

/-- An entry ends with STATUS ERROR and the failure `e` (R132). DEDUCED (log entry 80). -/
def endError (s : State) (t id : Nat) (e : FailInfo) : State :=
  let s := dropReads (releaseTiles s t id) t id
  let s := onFlight s t id fun s f => countOut s t id f.planes
  let s := modFlight s t id fun f => { f with
    paused := f.paused || (f.desc.isPlane && markedHere s f.desc)
    phase := .settling, status := 2, code := e.code, failed := some e, want := [], preWant := [], readDue := [], readOut := false }
  settleCheck s t id

/-! ### After a record (R110, R127, R129, R143, R211, R212, R420) -/

/-- Duplicates of entry `f` that wait for it get their record next, in post order (R127). -/
def releaseDuplicates (s : State) (t : Nat) (f : Flight) : State :=
  let waiting := ((tapAt s t).queue.filter fun g => g.phase == .awaitOriginal && g.desc == f.desc).map (·.id)
  let s := forAll waiting s fun s id =>
    modFlight s t id fun g => { g with phase := .recording, status := 1, record := duplicateRecord f.record }
  modTap s t fun x => { x with recQ := waiting ++ x.recQ }

/-- Entries whose fence holds now go to their record; barriers whose fence holds send their arrival. -/
def fenceAll (s : State) (t : Nat) : State :=
  forAll ((tapAt s t).queue.map (·.id)) s fun s id =>
    onFlight s t id fun s f =>
      if f.phase == .fencing then fenceFlight s t id
      else if f.phase == .waitArrive && fenceOk (tapAt s t) f then sendArrival s t id
      else s

/-- What a record with STATUS OK or ERROR counts (R212, R377, R404). -/
def countRecord (s : State) (t : Nat) (f : Flight) : State :=
  if f.desc.isData then
    let s := forAll f.planes s fun s k => audAdd s (0x7080 + t) (0x09 + k) 1
    if f.status == 2 then tapCnt s t 0x23 else s
  else s

/-- The completion record of entry `id` is visible. -/
def recordVisible (s : State) (t id : Nat) : State :=
  onFlight s t id fun s f =>
    let ran := f.status == 0 || f.status == 2
    let s := dogRestart (audAdd s (0x3000 + t) 0x06 1) t
    let s := if ran then galTapRecord (countRecord s t f) t f else s
    let s := if f.status == 0 then
        odSet s (0x3000 + t) 0x18 ((resultEddy f).zipIdx.foldl (fun n w => n + w.1 * 2 ^ (64 * w.2)) 0) else s
    let s := modTap s t fun x => { x with
      queue := x.queue.filter fun g => g.id != id
      recQ := x.recQ.filter fun i => i != id
      slots := match f.slot with | some n => x.slots.set n false | none => x.slots
      dups := if f.status == 0 then ((f.desc, f.record) :: x.dups).take 512 else x.dups }
    let s := if ran then releaseDuplicates s t f else s
    let s := fenceAll s t
    let s := tryRecord s t
    let s := holdCheck s t f.desc.lastInStep
    let s := if f.desc.lastInStep || f.desc.op == 7 then swapBoundary s else s
    let s := parkedStep s t
    let s := if (tapAt s t).state == .saving then post s (.ctxSaveDone t) else s
    kick (drainKick s) t

/-- A write of a record failed: the record is written again with E_ECC_UNCORR (R153), or as it is where its tail flag has been applied,
which only a record of STATUS OK may accompany (R203). DEDUCED (log entry 67). -/
def recordFailed (s : State) (t id : Nat) : State :=
  onFlight s t id fun s f =>
    if f.status == 0 && f.desc.tailEn then tryRecord s t
    else
    let s := countOut s t id f.planes
    let (s, e) := tapFailure s t f 0x000E 0xFF (tapAt s t).contrib 0xFF
    let f' := { f with status := 2, code := 0x000E, failed := some e }
    tryRecord (modFlight s t id fun g => { g with status := 2, code := 0x000E, failed := some e, record := formRecord f' }) t

end Sys2Proof.Machine
end

