-- ==== Sys2Proof/Machine/Querns.lean ====
section
/-! DEFINITION. What a quern position keeps and looks at: its inputs in order of span, occupied indices (R113, R220), the bucket
table and closed keys (R16, R212, R216), silent inputs and timers (R218, R219, R359), failures and aborts (R132, R356), checks and
spares (R334, R355, R358), and links that go down (R360, R361). -/

namespace Sys2Proof.Machine

/-! ### Paused spans (R222) -/

/-- The spans that a quern holds as paused. -/
def Quern.pausedSpans (x : Quern) : List Span := x.notices.flatMap Prod.snd

/-- T_PAUSE_MAX of the oldest notice that it holds. -/
def Quern.pauseLimit (x : Quern) : Nat := (x.notices.head?.map Prod.fst).getD 0

/-! ### Inputs and occupied indices -/

/-- An input put into a list in rising order of span. -/
def insertInput (c : InCfg) : List InCfg → List InCfg
  | [] => [c]
  | d :: r => if c.span.base < d.span.base then c :: d :: r else d :: insertInput c r

/-- The present inputs of a position in rising order of span (R132). -/
def inputsBySpan (s : State) (q : Nat) : List InCfg := (inputsOf s q).foldl (fun l c => insertInput c l) []

/-- The quern whose number errors and counters name: the one that serves the position (R323). DEDUCED (log entry 105). -/
def quernNo (s : State) (q : Nat) : Nat := (quernAt s q).server.getD q

/-- Count in the counters of the quern that serves the position. DEDUCED (log entries 84, 105). -/
def quernCnt (s : State) (q sub n : Nat) : State := cntAdd s (0x7020 + q) sub n

/-- Levels of querns within the instance. -/
def quernDepth (s : State) : Nat := s.params.positions + 1

/-- The lowest occupied index behind an input (log entry 9). -/
def lowestOcc (s : State) (plane : Nat) : Nat → InCfg → Nat
  | 0, c => c.span.base
  | fuel + 1, c =>
    match c.src with
    | .quern q => (inputsBySpan s q).foldl (fun n d => min n (lowestOcc s plane fuel d)) (if (inputsOf s q).isEmpty then c.span.base else 0xFFFFFF)
    | .tap _ => c.span.base
    | .none => 0xFFFFFF
    | _ =>
      if c.occ == 2 ^ c.span.k then c.span.base
      else c.span.base + Config.lowestBehind (epochOf s plane) plane c.span.base c.span.k % 2 ^ c.span.k

/-- The lowest occupied index in the span of input `c`. DESIGN CHOICE (log entry 9). -/
def lowestOf (s : State) (plane : Nat) (c : InCfg) : Nat := lowestOcc s plane (quernDepth s) c

/-- Whether index `i` is occupied behind an input. -/
def occupiedBelow (s : State) (plane i : Nat) : Nat → InCfg → Bool
  | 0, _ => false
  | fuel + 1, c =>
    spanHas c.span i &&
      match c.src with
      | .tap _ => true
      | .quern q => (inputsOf s q).any (occupiedBelow s plane i fuel)
      | .none => false
      | _ => c.occ == 2 ^ c.span.k || Config.occupiedBehind (epochOf s plane) plane i

/-- Whether index `i` is occupied below quern `q`. -/
def occupiedAt (s : State) (q plane i : Nat) : Bool := (inputsOf s q).any (occupiedBelow s plane i (quernDepth s))

/-! ### The bucket table -/

/-- The open entry of a key. -/
def findEntry (x : Quern) (bucket : U32) (step : U64) (plane : Nat) : Option Entry :=
  x.entries.find? fun e => e.bucket == bucket && e.step == step && e.plane == plane

/-- Same key and plane. -/
def sameEntry (a b : Entry) : Bool := a.bucket == b.bucket && a.step == b.step && a.plane == b.plane

/-- Change the entry of a key. -/
def putEntry (s : State) (q : Nat) (e : Entry) : State :=
  modQuern s q fun x => { x with
    entries := if x.entries.any (sameEntry e) then x.entries.map fun o => if sameEntry e o then e else o else x.entries ++ [e] }

/-- The key of a message whose passage the node knows. -/
def findPassed (x : Quern) (bucket : U32) (step : U64) (plane : Nat) : Option Closed :=
  x.closed.find? fun c => c.bucket == bucket && c.step == step && c.plane == plane

/-- The key of a message that the quern has closed. -/
def findClosed (x : Quern) (bucket : U32) (step : U64) (plane : Nat) : Option Closed :=
  (findPassed x bucket step plane).filter fun c => !c.lost

/-- The virtual channel and plane of a message that waits at an input. -/
def waitsAs (a b : Nat × Message) : Bool := a.1 == b.1 && a.2.plane == b.2.plane && msgVc a.2.code == msgVc b.2.code

/-- Whether something waits for a segment buffer of input `i`: a message at it, or flits in the pools or the landing of its port. -/
def inputWaits (s : State) (q i : Nat) : Bool :=
  ((quernAt s q).waiting.any fun w => w.1 == i) ||
    match (inputAt s q i).src with
    | .lattice p => !(latAt s p).heldFlits.isEmpty
    | .adit a => !(aditAt s a).landing.isEmpty
    | _ => false

/-- Each input at which something waits is offered it again (R16). -/
def wakeWaiting (s : State) (q : Nat) : State :=
  if (quernAt s q).switching.isSome then s
  else postAll s (((List.range 16).filter (inputWaits s q)).map fun i => .waitingSegmentAccepted q i)

/-- The entry leaves the table. -/
def dropEntry (s : State) (q : Nat) (e : Entry) : State :=
  drainKick (wakeWaiting (modQuern s q fun x => { x with entries := x.entries.filter fun o => !sameEntry e o }) q)

/-- The passage of a result on every input is taken back from ACCEPTED (R212). -/
def subPassage (s : State) (q plane : Nat) : State :=
  let ins := inputsOf s q
  modQuern s q fun x => { x with
    accepted := ins.foldl (fun r i =>
      let k := plane * 16 + i.input
      RegFile.set 0 k ((RegFile.get 0 k r + (2 ^ 32 - i.occ % 2 ^ 32)) % 2 ^ 32) r) x.accepted }

/-- What the quern took for the passage of a closed key is taken back. -/
def takeBack (s : State) (q : Nat) (c : Closed) : State :=
  if c.counted then
    modQuern (subPassage s q c.plane) q fun x => { x with closed := x.closed.map fun d => if d = c then { d with counted := false } else d }
  else s

/-- The passage of a data operation's result on every input (R212). -/
def countPassage (s : State) (q plane : Nat) : State :=
  let ins := inputsOf s q
  modQuern s q fun x => { x with
    accepted := ins.foldl (fun r i =>
      let k := plane * 16 + i.input
      RegFile.set 0 k ((RegFile.get 0 k r + i.occ) % 2 ^ 32) r) x.accepted }

/-- ACCEPTED of the plane starts again from 0; earlier passages no longer count (R214, R212). DEDUCED (log entry 83). -/
def quernRebase (s : State) (q plane : Nat) : State :=
  modQuern s q fun x => { x with
    accepted := x.accepted.filter fun a => a.1 / 16 != plane
    closed := x.closed.map fun c => if c.plane == plane then { c with counted := false } else c }

/-- Same bucket and step. -/
def isKey (b : U32) (st : U64) (b' : U32) (st' : U64) : Bool := b == b' && st == st'

/-- The descriptor fields of an entry. -/
def entryDesc (e : Entry) : Desc :=
  match e.agree with
  | some a => a.desc e.bucket e.step
  | none => ⟨0, 0, 0, 0, 0, 0, 0, 0⟩

/-- An open entry whose result has already been passed down gives its passage back: plane root M that awaits partial parts. -/
def unpass (s : State) (q : Nat) (e : Entry) : State :=
  if e.merging && (entryDesc e).hasStats then subPassage s q e.plane else s

/-- The entry closes; its key joins the 256 most recently closed (R216). -/
def closeEntry (s : State) (q : Nat) (e : Entry) (retried counted : Bool) : State :=
  let s := modQuern s q fun x => { x with
    closed := ({ bucket := e.bucket, step := e.step, plane := e.plane, attempt := e.attempt, run := e.run, retried := retried
                 counted := counted, agree := e.agree, chunk := e.chunk } ::
      x.closed.filter fun c => !(isKey c.bucket c.step e.bucket e.step && c.plane == e.plane)).take 256
    merges := if retried then x.merges else x.merges.filter fun m => !isKey m.bucket m.step e.bucket e.step
    scaleRecs := if retried then x.scaleRecs else x.scaleRecs.filter fun m => !(isKey m.bucket m.step e.bucket e.step && m.plane == e.plane) }
  dropEntry s q e

/-! ### What a quern records at the close of a committing attempt (R337, R338, R341, R344) -/

/-- The quern positions that work on a plane. -/
def planeQuerns (s : State) (k : Nat) : List Nat :=
  (List.range s.params.positions).filter fun q => !(inputsOf s q).isEmpty && (planesOf s q).contains k

/-- The collected record of a key. -/
def collectOf (s : State) (bucket : U32) (step : U64) (plane : Nat) : GalCollect :=
  (s.gallery.collect.find? fun c => isKey c.bucket c.step bucket step && c.plane == plane).getD
    { bucket := bucket, step := step, plane := plane, querns := [] }

/-- The collected record put back, or taken out. -/
def setCollect (s : State) (c : GalCollect) (keep : Bool) : State :=
  let rest := s.gallery.collect.filter fun d => !(isKey c.bucket c.step d.bucket d.step && c.plane == d.plane)
  { s with gallery := { s.gallery with collect := if keep then rest ++ [c] else rest } }

/-- Word 0 of the digest of a port among those of a quern. -/
def digestAt (ds : List (Nat × List Nat)) (port : Nat) : Nat := ((assocGet port ds).getD eddyZero).headD 0

/-- The entry of R341. PROV_ID is not in the agreement set: 0. -/
def galPlaneEntry (s : State) (c : GalCollect) (e : Entry) : GalEntry :=
  let d := entryDesc e
  let qs := planeQuerns s c.plane
  let ins := qs.flatMap fun q => (inputsBySpan s q).map fun i => digestAt ((assocGet q c.querns).getD []) i.input
  let top := qs.find? fun q => match quernOut s q c.plane with | .lattice _ => true | .adit _ => true | _ => false
  let out := if c.root != 0 then c.out else
    match top with
    | some q => (assocGet 16 ((assocGet q c.querns).getD [])).getD eddyZero
    | none => eddyZero
  let zero := d.frozen
  { bucket := c.bucket.toNat, sel := 0xFFFFFF, plane := c.plane
    words :=
      [galWord0 c.bucket.toNat 0 1 d.frozen (e.attempt == 1) (e.run != 0) c.outRange 0, c.step,
       u64 (ins.length * 2 ^ 56 + c.plane * 2 ^ 48 + c.root * 2 ^ 40 + epochOf s c.plane),
       u64 (if zero then 0 else c.statsW0)] ++ out.map fun w => u64 (if zero then 0 else w)
    inputs := if zero then ins.map fun _ => 0 else ins }

/-- What the close of a committing attempt leaves in the Gallery and the capture table. -/
def recordClose (s : State) (q : Nat) (e : Entry) : State :=
  let d := entryDesc e
  let s := capStore s (quernNo s q) e.plane e.bucket e.step (2 * e.run + (if d.exact then e.attempt else 0)) e.digests
  if !d.digestEn then s
  else if tapped s then
    if isLeaf s q && !d.frozen then addOwn s e.bucket e.step e.run (q * 8 + e.plane) ((assocGet 16 e.digests).getD eddyZero) else s
  else
    let c := collectOf s e.bucket e.step e.plane
    let c := { c with querns := assocPut q e.digests c.querns, outRange := c.outRange || e.outRange }
    if (planeQuerns s e.plane).all fun p => (assocGet p c.querns).isSome then
      setCollect (galRecord s e.step (galPlaneEntry s c e)) c false
    else setCollect s c true

/-- What a plane root adds to the record of its plane. -/
def recordRoot (s : State) (e : Entry) (result : List Nat) : State :=
  if tapped s || !(entryDesc e).digestEn then s
  else
    setCollect s { collectOf s e.bucket e.step e.plane with
      root := if e.plane == mergePlane s then 2 else 1, out := result, statsW0 := 0 } true

/-- ROLE of the instance on a plane (R341): 0 joint, 1 plane root, 2 root of the merge plane. -/
def planeRole (s : State) (k : Nat) : Nat :=
  if (planeQuerns s k).any fun q => isRoot s q k then (if k == mergePlane s then 2 else 1) else 0

/-- The entry with the agreement set it knows, be it of a PREPASS. -/
def entrySaid (e : Entry) : Entry := { e with agree := e.agree.or (e.agrees.head?.map Prod.snd) }

/-- A bucket with DIGEST_EN that fails, on an instance without taps: STATUS ERROR and every digest 0. -/
def recordFail (s : State) (e : Entry) : State :=
  let s := capFail s e.bucket e.step
  let e := entrySaid e
  if tapped s || !(entryDesc e).digestEn then s
  else
    let s := setCollect s (collectOf s e.bucket e.step e.plane) false
    let n := planeInputs s e.plane
    galRecord s e.step
      { bucket := e.bucket.toNat, sel := 0xFFFFFF, plane := e.plane
        words := [galWord0 e.bucket.toNat 0 1 (entryDesc e).frozen (e.attempt == 1) (e.run != 0) false 2, e.step,
                  u64 (n * 2 ^ 56 + e.plane * 2 ^ 48 + planeRole s e.plane * 2 ^ 40 + epochOf s e.plane), 0, 0, 0, 0, 0]
        inputs := List.replicate n 0 }

/-! ### Silent inputs and the arrival timer (R218, R219, R359) -/

/-- Whether input `i` has delivered every segment of the attempt. -/
def hasDelivered (e : Entry) (i : Nat) : Bool :=
  e.headDone || (e.agree.isSome && e.nsegs ≤ (assocGet i e.got).getD 0)

/-- The silent inputs of an entry in rising order of span; with `waiting`, OPEN does not count (R218, R360). While plane root M waits
for partial parts, the carrier's input is silent and every other one complete (R182). -/
def silentInputs (s : State) (q : Nat) (e : Entry) (waiting : Bool) : List InCfg :=
  (inputsBySpan s q).filter fun c =>
    if e.merging then spanHas c.span (carrierOf s e.plane)
    else !hasDelivered e c.input && (waiting || !e.opened.contains c.input)

/-- Whether a link on the path of an input passes `test` (R359). -/
def onPath (s : State) (bucket : U32) (step : U64) (plane : Nat) (test : PortRef → Bool) (waiting : Bool) : Nat → InCfg → Bool
  | 0, _ => false
  | fuel + 1, c =>
    match c.src with
    | .lattice p => test (.lattice p)
    | .adit a => test (.adit a)
    | .quern q =>
      match findEntry (quernAt s q) bucket step plane with
      | some e => (silentInputs s q e waiting).any (onPath s bucket step plane test waiting fuel)
      | none => (inputsOf s q).any (onPath s bucket step plane test waiting fuel)
    | _ => false

/-- Whether a link on the path of input `c` of an entry passes `test`. -/
def linkOn (s : State) (e : Entry) (test : PortRef → Bool) (waiting : Bool) (c : InCfg) : Bool :=
  onPath s e.bucket e.step e.plane test waiting (quernDepth s) c

/-- Whether a port is RECOVERING. -/
def isRecovering (s : State) : PortRef → Bool
  | .lattice p => (latAt s p).state == .recovering
  | .adit a => (aditAt s a).state == .recovering

/-- Whether two aligned spans meet. -/
def spansMeet (a b : Span) : Bool := a.base < spanStop b && b.base < spanStop a

/-- The aligned parts of the span (`b`, `k`) that no span of `ps` covers. -/
def uncovered (ps : List Span) : Nat → Nat → List Span
  | 0, b => if ps.any fun p => spanHas p b then [] else [⟨b, 0⟩]
  | k + 1, b =>
    let x : Span := ⟨b, k + 1⟩
    if ps.any fun p => p.base ≤ b && spanStop x ≤ spanStop p then []
    else if !(ps.any (spansMeet x)) then [x]
    else uncovered ps k b ++ uncovered ps k (b + 2 ^ k)

/-- Whether some index of `x` is occupied behind input `c`. -/
def anyOccupied (s : State) (plane : Nat) (c : InCfg) (x : Span) : Bool :=
  if x == c.span then true
  else (List.range (2 ^ x.k)).any fun i => occupiedBelow s plane (x.base + i) (quernDepth s) c

/-- Whether every occupied index in the span of input `c` lies in a span that the quern holds as paused (R219). -/
def pausedOver (s : State) (q plane : Nat) (c : InCfg) : Bool :=
  !((uncovered (quernAt s q).pausedSpans c.span.k c.span.base).any (anyOccupied s plane c))

/-- Whether the arrival timer of an entry counts (R219). -/
def timerRuns (s : State) (q : Nat) (e : Entry) : Bool :=
  let sil := silentInputs s q e false
  !sil.isEmpty && !(sil.any (linkOn s e (isRecovering s) false)) && !(sil.all (pausedOver s q e.plane))

/-- The limit of an entry's timer (R219, R182). -/
def entryLimit (s : State) (q : Nat) (e : Entry) : Nat :=
  limitOf e.limits (if e.merging then crossesAdit s else (inputsOf s q).any fun c => c.beyondAdit || (match c.src with | .adit _ => true | _ => false))

/-! ### Failures and aborts (R132, R217, R356) -/

/-- A message of an entry. -/
def entryMsg (e : Entry) (code : MsgCode) : Message :=
  { code := code, plane := e.plane, bucket := e.bucket, step := e.step, attempt := e.attempt, run := e.run, paused := e.paused }

/-- The ABORT of an entry. -/
def entryAbort (e : Entry) (f : FailInfo) : Message := { entryMsg e .abort with body := .fail f }

/-- A node that takes or sends an ABORT for a key discards what it holds of it: the entry, the merge, the closed key (R356).
DEDUCED (log entry 83). -/
def discardKey (s : State) (q : Nat) (m : Message) : State :=
  let s := match findPassed (quernAt s q) m.bucket m.step m.plane with
    | some c => takeBack s q c
    | none => s
  let s := modQuern s q fun x => { x with
    closed := x.closed.filter fun c => !(isKey c.bucket c.step m.bucket m.step && c.plane == m.plane)
    merges := x.merges.filter fun c => !(isKey c.bucket c.step m.bucket m.step && isRoot s q m.plane)
    scaleRecs := if resends (failInfoOf m) then x.scaleRecs
                 else x.scaleRecs.filter fun c => !(isKey c.bucket c.step m.bucket m.step && c.plane == m.plane) }
  match findEntry (quernAt s q) m.bucket m.step m.plane with
  | some e => dropEntry (recordFail (quernCnt (unpass s q e) q 0x14 e.buf.length) e) q e
  | none => s
where
  /-- Failures that a re-send answers (R357). -/
  resends (f : FailInfo) : Bool := (f.code == 0x0B || f.code == 0x0C || f.code == 0x0E) && (f.objKind == 2 || f.objKind == 5)

/-- Whether a bucket of the entry was marked as paused here (R223). -/
def pausedMark (s : State) (q : Nat) (m : Message) : Message :=
  match findEntry (quernAt s q) m.bucket m.step m.plane with
  | some e => { m with paused := m.paused || e.paused }
  | none => m

/-- An ABORT goes down every input. -/
def abortDown (s : State) (q : Nat) (m : Message) : State :=
  let m := pausedMark s q m
  quernDownAll (discardKey s q m) q m

/-- An ABORT goes toward the plane root, and from there down its own plane (R132). -/
def abortUp (s : State) (q : Nat) (m : Message) : State :=
  let m := pausedMark s q m
  if isRoot s q m.plane then abortDown s q m else quernUp (discardKey s q m) q m

/-- The entry fails here: its record, and its ABORT. `kind` 2 names the quern, 5 the plane root. -/
def failEntry (s : State) (q : Nat) (e : Entry) (code kind contrib input cause : Nat) : State :=
  let (s, f) := failure s code kind (quernNo s q) e.plane contrib input cause e.bucket e.step
  abortUp s q (entryAbort e f)

/-- BUCKET_TIMEOUT of an entry for the silent input `c` (R220, R182). -/
def timeoutEntry (s : State) (q : Nat) (e : Entry) (c : InCfg) (cause : Nat) : State :=
  let s := quernCnt s q 0x1A 1
  if e.merging then failEntry s q e 0x0001 5 (carrierOf s e.plane) 0xFF cause
  else failEntry s q e 0x0001 2 (lowestOf s e.plane c) c.input cause

/-- BUCKET_TIMEOUT: the count of the entry's timer, in µs, has reached its limit. DESIGN CHOICE (log entry 5). -/
def doBucketTimeout (q plane : Nat) (bucket : U32) (step : U64) (elapsed : Nat) (s : State) : State :=
  match findEntry (quernAt s q) bucket step plane with
  | some e =>
    if elapsed < entryLimit s q e || !timerRuns s q e then s
    else
      match silentInputs s q e false with
      | c :: _ => timeoutEntry s q e c 0
      | [] => s
  | none => s

/-! ### A link that goes down (R360, R361) -/

/-- The entry hangs on an output port that is down: an ABORT down its inputs. -/
def cutEntry (s : State) (q : Nat) (e : Entry) (port : PortRef) (cause : Nat) : State :=
  let s := quernCnt s q 0x1A 1
  let (kind, n) := match port with | .lattice p => (3, p) | .adit a => (4, a)
  let (s, f) := failure s 0x0001 kind n e.plane 0xFFFFFF 0xFF cause e.bucket e.step
  abortDown s q (entryAbort e f)

/-- Whether the quern sends plane `k` to the port. -/
def outIs (s : State) (q k : Nat) (port : PortRef) : Bool :=
  match quernOut s q k, port with
  | .lattice n, .lattice p => n == p
  | .adit n, .adit a => n == a
  | _, _ => false

/-- What the entries of quern `q` suffer from a link that is down. -/
def quernLinkDown (s : State) (q : Nat) (port : PortRef) (cause : Nat) : State :=
  forAll (quernAt s q).entries s fun s e =>
    if outIs s q e.plane port then cutEntry s q e port cause
    else
      match (silentInputs s q e true).filter (linkOn s e (fun p => p == port) true) with
      | c :: _ => timeoutEntry s q e c cause
      | [] => s

/-- What every quern suffers, in the same fabric cycle: each looks at what was open when the link went down. DEDUCED (log entry 86). -/
def linkDown (s : State) (port : PortRef) (cause : Nat) : State :=
  forAll (List.range s.params.positions).reverse s fun s q => quernLinkDown s q port cause

/-! ### Checks and spares (R334, R355, R358) -/

/-- Whether spare `n` may stand in for position `q` (R20, R21, R26). -/
def spareFits (p : Sys2Proof.Config.Params) (n q : Nat) : Bool :=
  if p.taps = 0 || p.spares = 1 then true
  else if n = p.positions then q < p.leafQuerns
  else p.leafQuerns ≤ q

/-- Whether spare `n` is free. -/
def spareFree (s : State) (n : Nat) : Bool :=
  s.params.positions ≤ n && n < s.params.querns && !s.fencedQuerns.contains n
    && s.querns.all fun x => x.server != some n && x.switching != some n

/-- The free spare of lowest number that may stand in for position `q`. -/
def findSpare (s : State) (q : Nat) : Option Nat :=
  (List.range s.params.querns).find? fun n => spareFree s n && spareFits s.params n q

/-- The quern that serves position `q` is fenced; a spare takes the position, if one is free. -/
def fenceQuern (s : State) (q : Nat) (f : FailInfo) : State :=
  let no := quernNo s q
  let spare := findSpare s q
  let s := modQuern { s with fencedQuerns := insertNat no s.fencedQuerns } q fun x => { x with
    server := none, switching := spare, fenceFail := some f, entries := [], merges := [], scaleRecs := [], notices := []
    closed := (x.closed.filter (·.counted)).map fun c => { c with lost := true } }
  match spare with
  | some _ => s
  | none => wakeWaiting (sump s 0x0104 2 2 no 0xFF 0xFFFFFF f.code 0) q

/-- The quern at position `q` fails a check while it works on `e`, or off every bucket: it aborts every open bucket, the failing one
first, and is fenced. `seg` is the position of the segment that fails, which E_ECHO_CHECK names (R334, R372). DESIGN CHOICE (log entries
87, 122). -/
def checkFail (s : State) (q : Nat) (e : Option Entry) (code kind seg : Nat) : State :=
  let s := if code == 0x0E then s else quernCnt s q 0x18 1
  let no := quernNo s q
  let (s, f) := match e with
    | some e => failureMore s code kind no e.plane 0xFFFFFF 0xFF 0 e.bucket e.step (if code == 0x0B then some (u64 seg) else none)
    | none =>
      let r := sumpRec code 0 kind no 0xFF 0xFFFFFF (if kind = 5 then 2 else 1) (u64 (freeVal s))
      let s := sumpWrite2 (useFree s) r none
      (s, { noFail with code := code, nodeId := u32 (nodeId s), objKind := kind, obj := no, sumpSeq := sumpSeqOf s r })
  let all := (quernAt s q).entries
  let order := match e with | some e => e :: all.filter fun o => !sameEntry e o | none => all
  let s := forAll order s fun s o => abortUp s q (entryAbort o { f with plane := o.plane })
  fenceQuern s q f

/-- The code of an upset in the combine path of a bucket (R333, R335, R354). -/
def upsetCode (d : Desc) (u : Upset) : Nat :=
  match u with
  | .ecc => 0x0E
  | .residue => 0x0C
  | .echo => if d.exact then 0x0B else 0x0C
  | .none => 0

/-- An injection armed for the quern that serves `q`, of one of the kinds: the kind, and the state after it (R405). -/
def injectAt (s : State) (objKind unit : Nat) (kinds : List Nat) : Nat × State :=
  let j := s.inject
  if j.armed && j.objKind == objKind && j.unit == unit && kinds.contains j.kind then
    let s := odSet s 0x7038 0x06 (min (odGet s 0x7038 0x06 + 1) 0xFFFF)
    let s := { s with inject := { j with left := j.left - 1, armed := j.left != 1 } }
    (j.kind, if j.left ≤ 1 then odSet s 0x7038 0x05 2 else s)
  else (0, s)

end Sys2Proof.Machine
end

