-- ==== Sys2Proof/Machine/Tailrace.lean ====
section
/-! DEFINITION. The tailrace: what a plane root sends down (R14, R87, R94, R115, R178, R181, R264) and what each quern passes to its
inputs (R14, R113, R178, R264), with the passage counts and the close of the entry (R212, R216). -/

namespace Sys2Proof.Machine

/-! ### Portions (R14, R113, R178) -/

/-- Whether dynamic plane balancing is on (R120, R317). -/
def balanceOn (s : State) : Bool := cfg s 0x2000 0x03 == 1 && !strictOn s

/-- The chunk of an entry: that of its chunk block, where one has come down, else as R119 cuts it (R120). -/
def entryChunk (s : State) (e : Entry) : Nat × Nat :=
  match e.chunk with
  | some c => (c.1, c.1 + c.2)
  | none => chunkAt (entryDesc e) (activePlanes s) e.plane

/-- The chunk block of the first tailrace message of a chunk (R120, R263). -/
def chunkBlock (s : State) (e : Entry) : Option (Nat × Nat) :=
  let c := chunkAt (entryDesc e) (activePlanes s) e.plane
  if balanceOn s then some (c.1, c.2 - c.1) else none

/-- Whether an earlier tailrace message of the chunk has carried it: the answer to a pre-pass, or RETRY. -/
def chunkTold (e : Entry) : Bool := let d := entryDesc e; (d.auto && !d.frozen) || e.attempt == 1

/-- The bucket elements that the participants behind an input receive. -/
def inputOwns (d : Desc) (c : InCfg) : Nat × Nat :=
  if d.op == 1 then (if spanHas c.span d.target then (0, d.count) else (0, 0))
  else if d.op == 3 then (c.rank * d.part, (c.rank + c.occ) * d.part)
  else (0, d.count)

/-- The part of a RESULT message that lies in the range `own`; the chunk is `chunk`. -/
def clipResult (d : Desc) (chunk own : Nat × Nat) (m : Message) : Option Message :=
  let n := m.body.laneList.length
  if d.isArg then some m
  else
    let e0 := chunk.1 + m.seg * segElems d + m.firstElem
    let a := max e0 own.1
    let b := min (e0 + n) own.2
    if b ≤ a then none
    else
      let sc := if m.body.scaleList.isEmpty then [] else (m.body.scaleList.drop ((a - e0) / 32)).take (ceilDiv (b - a) 32)
      some { m with firstElem := m.firstElem + (a - e0), body := .lanes ((m.body.laneList.drop (a - e0)).take (b - a)) sc }

/-- LAST_SEG and what the token of the chunk says on the last message of it alone, the chunk block on the first (R264, R263). -/
def markLast (token : Message) : Bool → List Message → List Message
  | _, [] => []
  | first, [m] =>
    [{ m with lastSeg := true, eddy := some (token.eddy.getD eddyZero), maxexp := token.maxexp, outRange := token.outRange
              chunk := if first then token.chunk else none }]
  | first, m :: r =>
    { m with lastSeg := false, eddy := none, maxexp := -32768, chunk := if first then token.chunk else none } :: markLast token false r

/-- What a chunk brings down one input: its RESULT messages, or a commit token. -/
def downChunk (d : Desc) (chunk : Nat × Nat) (ms : List Message) (token : Message) (c : InCfg) : List Message :=
  let l := ms.filterMap (clipResult d chunk (inputOwns d c))
  if l.isEmpty then [token] else markLast token true l

/-- A chunk's result goes down every input (R14). `token` is the commit token, with the Eddy block and the summary.
DESIGN CHOICE (log entry 71). -/
def passChunk (s : State) (q : Nat) (e : Entry) (ms : List Message) (token : Message) : State :=
  let d := entryDesc e
  let chunk := entryChunk s e
  let s := forAll (inputsOf s q) s fun s c => forAll (downChunk d chunk ms token c) s fun s m => quernDown s q c m
  countPassage s q e.plane

/-- A committing attempt closes. -/
def closeCommit (s : State) (q : Nat) (e : Entry) : State := closeEntry (recordClose s q e) q e false true

/-- The rows of the bucket that the participants behind an input receive (R178). -/
def inputRows (d : Desc) (c : InCfg) : Nat × Nat :=
  if d.op == 3 then (c.rank * (d.rows / d.total), (c.rank + c.occ) * (d.rows / d.total)) else (0, d.rows)

/-- The row part `ws`, whose first row is `first`, goes to the owners of its rows. -/
def passRows (s : State) (q : Nat) (d : Desc) (first : Nat) (ws : List Nat) (m : Message) : State :=
  forAll (inputsOf s q) s fun s c =>
    let r := inputRows d c
    let a := max first r.1
    let b := min (first + ws.length) r.2
    if b ≤ a then s else quernDown s q c { m with body := .rows ((ws.drop (a - first)).take (b - a)) }

/-- The first row of the row part that a quern below the root receives. -/
def rowsFrom (s : State) (q : Nat) (m : Message) (d : Desc) : Nat :=
  let told := match findEntry (quernAt s q) m.bucket m.step m.plane with
    | some e => e.chunk
    | none => (findClosed (quernAt s q) m.bucket m.step m.plane).bind (·.chunk)
  let chunk := match told with | some c => (c.1, c.1 + c.2) | none => chunkAt d (activePlanes s) m.plane
  let own := (inputsOf s q).foldl (fun n c => min n (inputRows d c).1) d.rows
  max (if d.cols = 0 then 0 else chunk.1 / d.cols) own

/-- A message goes down the one input whose span contains index `i`. -/
def passToward (s : State) (q i : Nat) (m : Message) : State :=
  forAll ((inputsOf s q).filter fun c => spanHas c.span i) s fun s c => quernDown s q c m

/-- The merged part goes to every participant, in REDUCE to the TARGET only (R181). -/
def passMerged (s : State) (q : Nat) (d : Desc) (m : Message) : State :=
  if d.op == 1 then passToward s q d.target m else quernDownAll s q m

/-! ### The plane root's answers (R87, R94) -/

/-- Count for a plane (R404). -/
def planeCnt (s : State) (k sub : Nat) : State := cnt s (0x7008 + k) sub

/-- The pre-pass is whole at the plane root: its answer (R94). -/
def rootPrepass (s : State) (q : Nat) (e : Entry) (es : List Int) : State :=
  let d := entryDesc e
  let m := { entryMsg e .prepassAnswer with chunk := chunkBlock s e }
  if d.exact then
    quernDownAll (planeCnt s e.plane 0x03) q { m with lastSeg := true, maxexp := es.foldl max (-32768) }
  else
    let xs := es.map (prepassScale d)
    if xs.any fun x => scaleLimit (transportTy d) < x then failEntry s q e 0x000D 5 0xFFFFFF 0xFF 0
    else
      let s := modQuern s q fun x => { x with
        scaleRecs := { bucket := e.bucket, step := e.step, plane := e.plane, run := e.run, scales := xs } ::
          x.scaleRecs.filter fun c => !(isKey c.bucket c.step e.bucket e.step && c.plane == e.plane) }
      quernDownAll (planeCnt s e.plane 0x03) q { m with lastSeg := true, body := .scaleVec xs }

/-- RETRY goes down, and the entry's partial state is discarded (R87). -/
def passRetry (s : State) (q : Nat) (e : Entry) (m : Message) : State :=
  let s := quernCnt s q 0x13 (e.got.foldl (fun n g => n + g.2) 0)
  closeEntry (quernDownAll s q m) q e true false

/-- The scales in force of the chunk at the plane root (R81). -/
def rootScales (s : State) (q : Nat) (e : Entry) : List Int :=
  match (quernAt s q).scaleRecs.find? fun c => isKey c.bucket c.step e.bucket e.step && c.plane == e.plane && c.run == e.run with
  | some c => c.scales
  | none => e.scales.map fun _ => (entryDesc e).anchor

/-- The RESULT messages of a converted chunk, one for each segment (R264). DEDUCED (log entry 13). -/
def resultMessages (e : Entry) (d : Desc) (chunk : Nat × Nat) (c : Converted) : List Message :=
  (List.range (segCount d chunk)).filterMap fun i =>
    let r := segOf d chunk i
    if r.2 ≤ r.1 then none
    else
      let cs := (c.codes.drop (r.1 - chunk.1)).take (r.2 - r.1)
      let sc := (c.scales.drop ((r.1 - chunk.1) / 32)).take (ceilDiv (r.2 - r.1) 32)
      some { entryMsg e .result with
        seg := i, outRange := c.range || e.outRange
        body := .lanes (cs.map fun (p : Nat) => { val := (p : Int) }) (sc.map fun (b : Nat) => (b : Int) - 127) }

/-! ### Partial parts, winners and the merge (R115, R178 to R182) -/

/-- An entry of R115 in bits [127:0] of a slot. -/
def entrySlot (e : List Nat) : Nat := e.zipIdx.foldl (fun n w => n + w.1 % 2 ^ 32 * 2 ^ (32 * w.2)) 0
/-- The entry of a slot. -/
def slotEntry (x : Nat) : List Nat := [bitsOf x 31 0, bitsOf x 63 32, bitsOf x 95 64, bitsOf x 127 96]

/-- Whether run `a` is later than run `b`, modulo 8. DEDUCED (log entry 81). -/
def laterRun (a b : Nat) : Bool := a % 8 != b % 8 && (a + 8 - b) % 8 < 4

/-- The partial part of plane `k` at plane root M. A part of a superseded attempt of the same plane is dropped (R92). -/
def putPart (s : State) (q : Nat) (bucket : U32) (step : U64) (run k attempt : Nat) (slots : List Nat) : State :=
  let old := (quernAt s q).merges.find? fun m => isKey m.bucket m.step bucket step
  let put := fun (r : MergeRec) => modQuern s q fun x => { x with
    merges := r :: x.merges.filter fun m => !isKey m.bucket m.step bucket step }
  match old with
  | some r =>
    if r.run == run then
      match assocGet k r.parts with
      | some p => if attempt < p.1 then s else put { r with parts := assocPut k (attempt, slots) r.parts }
      | none => put { r with parts := assocPut k (attempt, slots) r.parts }
    else if laterRun run r.run then put { bucket := bucket, step := step, run := run, parts := [(k, attempt, slots)] }
    else s
  | none => put { bucket := bucket, step := step, run := run, parts := [(k, attempt, slots)] }

/-- The parts of every active plane in rising order, once all are held; in EXACT they are of one attempt. -/
def mergeReady (s : State) (q : Nat) (e : Entry) : Option (List (List Nat)) :=
  match (quernAt s q).merges.find? fun m => isKey m.bucket m.step e.bucket e.step && m.run == e.run with
  | none => none
  | some r =>
    (activePlanes s).foldr (fun k acc =>
      match acc, assocGet k r.parts with
      | some l, some p => if (entryDesc e).exact && p.1 != e.attempt then none else some (p.2 :: l)
      | _, _ => none) (some [])

/-- Plane root M merges once it holds every part (R181), or every winner (R115). -/
def tryMerge (s : State) (q : Nat) (bucket : U32) (step : U64) (plane : Nat) : State :=
  match findEntry (quernAt s q) bucket step plane with
  | none => s
  | some e =>
    if !e.merging then s
    else
      match mergeReady s q e with
      | none => s
      | some parts =>
        let d := entryDesc e
        if d.isArg then
          let w := parts.foldl (fun a p => betterEntry d a (slotEntry (p.headD 0))) emptyEntry
          let ed := eddy 0 w
          let s := recordRoot (planeCnt s plane 0x01) e ed
          let s := passChunk s q e [{ entryMsg e .result with body := .lanes (entryLanes w) [] }]
            { entryMsg e .commit with eddy := some ed, maxexp := e.maxexp, chunk := if chunkTold e then none else chunkBlock s e }
          closeCommit s q e
        else
          let r := mergeParts d parts
          let s := if tapped s then s else setCollect s { collectOf s bucket step plane with statsW0 := (statsEddyOf r.1).headD 0 } d.digestEn
          let s := passMerged s q d { entryMsg e .statsMerged with lastSeg := true, body := .merged r.1 r.2 }
          closeCommit s q e

/-- The chunk has been sent, or is held back: plane `k`'s partial part goes to the carrier, or stays at plane root M. FIRST_ELEM of
STATS_PARTIAL and STATS_PASS, which carry no elements, names the plane the part is of. DESIGN CHOICE (log entry 15). -/
def sendPart (s : State) (q : Nat) (e : Entry) (slots : List Nat) : State :=
  let k := e.plane
  if k == mergePlane s then
    let s := putEntry s q { e with merging := true }
    tryMerge (putPart s q e.bucket e.step e.run k e.attempt slots) q e.bucket e.step k
  else
    let s := passToward s q (carrierOf s k)
      { entryMsg e .statsPartial with lastSeg := true, firstElem := k, maxexp := e.maxexp, body := .slots slots }
    closeCommit s q e

/-! ### The chunk at the plane root -/

/-- A chunk whose headrace is whole at the plane root (R87, R91). -/
def rootChunk (s : State) (q : Nat) (e : Entry) : State :=
  let d := entryDesc e
  let k := e.plane
  let chunk := chunkAt d (activePlanes s) k
  let token := { entryMsg e .commit with
    eddy := some eddyZero, maxexp := e.maxexp, outRange := e.outRange
    chunk := if chunkTold e then none else chunkBlock s e }
  let xs := rootScales s q e
  if d.frozen then
    closeCommit (passChunk (recordRoot (planeCnt s k 0x01) e eddyZero) q e [] token) q e
  else if d.exact && e.attempt == 0 && e.ovf then
    passRetry (planeCnt s k 0x02) q e { entryMsg e .retry with lastSeg := true, ovf := true, maxexp := e.maxexp, chunk := token.chunk }
  else if d.disc == 5 && e.attempt == 0 && e.doomed then failEntry s q e 0x000D 5 0xFFFFFF 0xFF 0
  else if d.disc == 5 && e.attempt == 0 && (xs.zip e.scales).any fun p => p.1 < p.2 then
    passRetry (planeCnt s k 0x02) q e { entryMsg e .retry with lastSeg := true, body := .scaleVec e.scales, chunk := token.chunk }
  else if d.isArg then
    let w := lanesEntry e.lanes
    if k == mergePlane s then sendPart s q e [entrySlot w]
    else sendPart (passChunk (recordRoot (planeCnt s k 0x01) e eddyZero) q e [] token) q e [entrySlot w]
  else
    let c := convertChunk d (bucketKey s d) d.anchor chunk.1 e.lanes e.scales
    let ed := codesDigest d.fmtOut d.count chunk.1 c.codes c.scales
    let s := recordRoot (planeCnt s k 0x01) e ed
    let e := { e with outRange := c.range || e.outRange }
    let s := passChunk s q e (resultMessages e d chunk c) { token with eddy := some ed, outRange := e.outRange }
    if d.hasStats then
      let st := chunkStats d (statLanes s) chunk.1 c
      let s := if st.rows.isEmpty then s
               else passRows s q d (chunk.1 / d.cols) st.rows { entryMsg e .statsRow with lastSeg := true }
      sendPart s q e st.slots
    else closeCommit s q e

/-! ### Messages from the parent -/

/-- The entry that a message from the parent answers, of the same run and attempt, with the chunk block that the message brings. -/
def answered (s : State) (q : Nat) (m : Message) : Option Entry :=
  match findEntry (quernAt s q) m.bucket m.step m.plane with
  | some e => if e.run == m.run && e.attempt == m.attempt then some { e with chunk := m.chunk.or e.chunk } else none
  | none => none

/-- The descriptor fields under which a trailer message passes: of the open entry or of the closed key. -/
def trailerDesc (s : State) (q : Nat) (m : Message) : Option Desc :=
  match findEntry (quernAt s q) m.bucket m.step m.plane with
  | some e => e.agree.map fun a => a.desc m.bucket m.step
  | none => (findClosed (quernAt s q) m.bucket m.step m.plane).bind fun c => c.agree.map fun a => a.desc m.bucket m.step

/-- A RESULT message from the parent: the messages of a chunk pass when the last one has come (R264). DESIGN CHOICE (log entry 71). -/
def doQuernResult (q : Nat) (m : Message) (s : State) : State :=
  match answered s q m with
  | none => s
  | some e =>
    let m := { m with paused := m.paused || e.paused }
    let e := { e with kept := e.kept ++ [m] }
    if !m.lastSeg then putEntry s q e
    else
      let e := { e with outRange := e.outRange || e.kept.any fun x => x.outRange }
      let token := { entryMsg e .commit with eddy := m.eddy, maxexp := m.maxexp, outRange := e.outRange
                                             chunk := (e.kept.headD m).chunk }
      closeCommit (passChunk s q e e.kept token) q e

/-- A COMMIT from the parent. -/
def doQuernCommit (q : Nat) (m : Message) (s : State) : State :=
  match answered s q m with
  | none => s
  | some e => closeCommit (passChunk s q e [] { m with paused := m.paused || e.paused }) q e

/-- RETRY from the parent. -/
def doQuernRetry (q : Nat) (m : Message) (s : State) : State :=
  match answered s q m with
  | none => s
  | some e => passRetry s q e { m with paused := m.paused || e.paused }

/-- PREPASS_ANSWER from the parent. -/
def doQuernAnswer (q : Nat) (m : Message) (s : State) : State :=
  match answered s q m with
  | none => s
  | some e => quernDownAll (putEntry s q e) q m

/-- STATS_ROW from the parent. -/
def doQuernRows (q : Nat) (m : Message) (s : State) : State :=
  match trailerDesc s q m, m.body with
  | some d, .rows ws => passRows s q d (rowsFrom s q m d) ws m
  | _, _ => s

/-- STATS_PARTIAL from the parent. -/
def doQuernPartial (q : Nat) (m : Message) (s : State) : State := passToward s q (carrierOf s m.plane) m

/-- STATS_MERGED from the parent. -/
def doQuernMerged (q : Nat) (m : Message) (s : State) : State :=
  match trailerDesc s q m with
  | some d => passMerged s q d m
  | none => s

/-- A release goes down every input and closes the entry (R210). -/
def passRelease (s : State) (q : Nat) (e : Entry) (m : Message) : State :=
  closeEntry (quernDownAll s q { m with paused := m.paused || e.paused }) q e false false

/-- BARRIER_RELEASE from the parent. -/
def doQuernRelease (q : Nat) (m : Message) (s : State) : State :=
  match answered s q m with
  | none => s
  | some e => passRelease s q e m

/-- A STEP_RELEASE that the instance passes down rebases the quern; without bound taps it is a step boundary (R214, R425). -/
def passStepRelease (s : State) (q : Nat) (e : Entry) (m : Message) : State :=
  let s := quernRebase (passRelease s q e m) q e.plane
  if (boundTaps s).isEmpty then swapBoundary s else s

/-- Whether plane `k`'s messages from the parent come over a port. -/
def fromPort (s : State) (q k : Nat) : Bool :=
  match quernOut s q k with | .lattice _ => true | .adit _ => true | _ => false

/-- STEP_RELEASE from the parent. -/
def doQuernStepRelease (q : Nat) (m : Message) (s : State) : State :=
  let s := if fromPort s q m.plane then planeCnt s m.plane 0x04 else s
  match answered s q m with
  | none => quernRebase s q m.plane
  | some e => passStepRelease s q e m

/-- ABORT from the parent. -/
def doQuernAbort (q : Nat) (m : Message) (s : State) : State :=
  let step := match findEntry (quernAt s q) m.bucket m.step m.plane with | some e => (entryDesc e).op == 7 | none => false
  let s := if fromPort s q m.plane then
      let s := planeCnt s m.plane 0x06
      if step then planeCnt s m.plane 0x05 else s
    else s
  abortDown s q m

/-- A message from the parent at a position whose quern is fenced: only an ABORT passes (R355). -/
def whenServed (s : State) (q : Nat) (f : State → State) : State := if (quernAt s q).server.isSome then f s else s

end Sys2Proof.Machine
end

