-- ==== Sys2Proof/Machine/Flights.lean ====
section
/-! DEFINITION. A tap at work on its descriptors: starts (R110, R121), source reads and accumulator drains (R152 to R161), what it
sends (R85, R94, R110, R114), and the failures it finds (R153, R159). -/

namespace Sys2Proof.Machine

/-! ### The source -/

/-- The chunk of plane `k`: as its plane root has said, else as R119 cuts it (R120). -/
def flightChunk (f : Flight) (k : Nat) : Nat × Nat := (assocGet k f.chunks).getD (chunkAt f.desc f.planes k)

/-- Source elements of a descriptor that plane `k` sends, as indices into the source region (R89, R114). DEDUCED (log entry 66). -/
def sentSource (f : Flight) (contrib rank k : Nat) : Nat × Nat :=
  let r := sentRange f.desc contrib rank (flightChunk f k)
  if f.desc.op == 5 then (r.1 - rank * f.desc.part, r.2 - rank * f.desc.part) else r

/-- The bytes of source elements [a, b): offsets and lengths (R32, R33). -/
def elemBytes (f n a b : Nat) : List (Nat × Nat) :=
  if b ≤ a then []
  else if isMx f then
    let lo := a / 32
    let nb := ceilDiv b 32 - lo
    [(lo * (4 * fmtBits f), nb * (4 * fmtBits f)), (mxScaleOffset f n + lo, nb)]
  else [(a * (fmtBits f / 8), (b - a) * (fmtBits f / 8))]

/-- The byte ranges to read for the planes `ks`: the whole source for all of them and for a DIGEST, else their chunks. -/
def readRanges (f : Flight) (contrib rank : Nat) (ks : List Nat) : List (Nat × Nat) :=
  let d := f.desc
  let n := srcElems d contrib
  if d.frozen then []
  else if d.op == 8 || f.planes.all fun k => ks.contains k then elemBytes d.fmtIn n 0 n
  else ks.flatMap fun k =>
    let r := sentSource f contrib rank k
    elemBytes d.fmtIn n r.1 r.2

/-- Bytes of one retention slot (R160). DEDUCED (log entry 63). -/
def slotBytes (s : State) : Nat := s.params.coreTiles * 262144

/-- Where the source of an entry is read: its retention slot once it has one, else SRC (R161). DEDUCED (log entry 63). -/
def sourceBase (s : State) (t : Nat) (f : Flight) : Nat :=
  match f.slot with
  | some n => odGet s (0x3000 + t) 0x0A + n * slotBytes s
  | none => f.desc.src

/-- A piece put into a list of pieces in rising order of offset. -/
def insertPiece (p : Nat × List Byte) : List (Nat × List Byte) → List (Nat × List Byte)
  | [] => [p]
  | q :: r => if p.1 ≤ q.1 then p :: q :: r else q :: insertPiece p r

/-- Pieces in rising order laid out from offset `pos`; a gap holds 0, an overlap keeps what is there. -/
def layPieces : Nat → List (Nat × List Byte) → List Byte
  | _, [] => []
  | pos, (o, bs) :: r =>
    let fill := List.replicate (o - pos) 0
    let new := bs.drop (pos - o)
    fill ++ new ++ layPieces (max pos o + new.length) r

/-- The source region that the pieces read so far make. -/
def regionOf (f : Flight) : List Byte := layPieces 0 (f.source.foldl (fun l p => insertPiece p l) [])

/-- Whether source reads of entry `id` are outstanding. -/
def readsLeft (x : Tap) (id : Nat) : Bool :=
  x.mem.any fun r => r.id == id && (match r.role with | .source _ => true | _ => false)

/-! ### Failures the tap finds -/

/-- A tap that saves its context looks again at what its descriptors still have to send (R163). -/
def saveKick (s : State) (t : Nat) : State := if (tapAt s t).state == .saving then post s (.ctxSaveDone t) else s

/-- The attempt that plane `k` runs at this tap. -/
def planeAttempt (f : Flight) (k : Nat) : Nat :=
  if f.desc.disc == 5 then b2n (f.retried.contains k) else f.attempt

/-- The tap fails a bucket on every participant (R153, R159, R49, R91, R335): a DIGEST, or a bucket that every plane has already
aborted, ends here alone. DEDUCED (log entry 80). -/
def tapFail (s : State) (t id code input : Nat) : State :=
  onFlight s t id fun s f =>
    let (s, e) := tapFailure s t f code 0xFF (tapAt s t).contrib input
    if !f.desc.isPlane || f.phase == .replanWait then endError s t id e
    else
      let s := dropReads (releaseTiles s t id) t id
      let s := countOut s t id f.planes
      let s := modFlight s t id fun f => { f with failing := true, want := [], preWant := [], readDue := [], readOut := false }
      saveKick (forAll f.planes s fun s k => tapUp s t (abortMsg k f.desc.bucket f.desc.step (planeAttempt f k) f.run e)) t

/-! ### Sending -/

/-- A message of an entry on plane `k`. DESIGN CHOICE (log entry 11). -/
def flightMsg (f : Flight) (code : MsgCode) (k : Nat) : Message :=
  { code := code, plane := k, bucket := f.desc.bucket, step := f.desc.step, attempt := planeAttempt f k, run := f.run }

/-- The pre-pass exponents of plane `k` (R94). -/
def sendPrepass (s : State) (t id k : Nat) (region : List Byte) : State :=
  onFlight s t id fun s f =>
    let es := prepassOf f.desc (tapAt s t).contrib (tapRank s t) region (flightChunk f k)
    tapUp s t { flightMsg f .prepass k with lastSeg := true, agree := some (f.desc.agreement f.desc.anchor), body := .exps es }

/-- The SCALED block scales in force for the chunk of plane `k` (R81). -/
def chunkScales (f : Flight) (k : Nat) : List Int :=
  match assocGet k f.scales with
  | some xs => xs
  | none =>
    let c := flightChunk f k
    List.replicate (ceilDiv (c.2 - c.1) 32) f.desc.anchor

/-- The payloads of the segments of plane `k`. -/
def chunkPayloads (s : State) (t : Nat) (f : Flight) (k : Nat) (region : List Byte) : List ((Nat × Nat) × Payload) :=
  let d := f.desc
  let c := flightChunk f k
  (List.range (segCount d c)).map fun i =>
    let r := segOf d c i
    let xs := (chunkScales f k).drop ((r.1 - c.1) / 32)
    (r, contribution d (bucketKey s d) (tapAt s t).contrib (tapRank s t) (planeAttempt f k) f.anchor xs region r)

/-- The segments of plane `k`, at the attempt in force. A second overflow fails the bucket (R91). In SCALED the OVF of the last segment says
that the condition of R86 has arisen. DESIGN CHOICE (log entry 121). -/
def sendChunk (s : State) (t id k : Nat) (region : List Byte) : State :=
  onFlight s t id fun s f =>
    if f.failing then s
    else
      let ps := chunkPayloads s t f k region
      let doomed := ps.any fun p => p.2.doomed
      if doomed && planeAttempt f k == 1 then tapFail s t id 0x000D 0xFF
      else
        let x := tapAt s t
        let meas := chunkMeasure f.desc x.contrib (tapRank s t) f.anchor region (flightChunk f k)
        let n := ps.length
        let s := modFlight s t id fun f => { f with begun := true }
        forAll ps.zipIdx s fun s p =>
          let last := p.2 + 1 == n
          tapUp s t { flightMsg f .segment k with
            seg := p.2, firstElem := p.1.2.first - p.1.1.1, lastSeg := last
            ovf := last && (meas.1 || doomed), maxexp := if last then meas.2 else -32768
            agree := if p.2 == 0 then some (f.desc.agreement f.anchor) else none
            body := .lanes p.1.2.lanes p.1.2.scales }

/-- The result Eddy of a DIGEST (R116, R135, R326). -/
def digestOf (d : Desc) (region : List Byte) : List Nat :=
  let ps := (List.range d.count).map fun e => (elemAt d.fmtIn d.count region e).1
  let scales := if isMx d.fmtIn then (List.range (ceilDiv d.count 32)).map fun b => (elemAt d.fmtIn d.count region (32 * b)).2 else []
  codesDigest d.fmtIn d.count 0 ps scales

/-- What is due once the source of entry `id` is there. DESIGN CHOICE (log entry 71). -/
def sourceReady (s : State) (t id : Nat) : State :=
  onFlight s t id fun s f =>
    if f.phase != .running || f.failing || readsLeft (tapAt s t) id || !f.readDue.isEmpty || f.drain.wanted || f.drain.reading.isSome
    then s
    else if f.desc.op == 8 then
      settleCheck (modFlight s t id fun f => { f with
        eddies := [(0, digestOf f.desc (regionOf f))], source := [], readOut := false, phase := .settling, status := 0 }) t id
    else
      let region := regionOf f
      let s := modFlight s t id fun f => { f with want := [], preWant := [], source := [], readOut := false }
      let s := forAll f.preWant s fun s k => sendPrepass s t id k region
      saveKick (forAll f.want s fun s k => sendChunk s t id k region) t

/-- Source reads that are due are issued, once a drained contribution is whole in its slot. -/
def startReads (s : State) (t id : Nat) : State :=
  onFlight s t id fun s f =>
    if f.readDue.isEmpty || retainLeft (tapAt s t) id || f.drain.wanted || f.drain.reading.isSome then s
    else
      let rs := (readRanges f (tapAt s t).contrib (tapRank s t) f.readDue).flatMap fun r =>
        readReqs id r.1 (sourceBase s t f + r.1) r.2
      let s := modFlight s t id fun f => { f with readDue := [], readOut := true }
      sourceReady (addMem s t rs) t id

/-- Planes put in rising order into a list of planes. -/
def addPlanes (ks l : List Nat) : List Nat := ks.foldl (fun a k => insertNat k a) l

/-- The chunks of the planes `ks` are to be sent from the source, read again. -/
def wantChunks (s : State) (t id : Nat) (ks : List Nat) : State :=
  startReads (modFlight s t id fun f => { f with want := addPlanes ks f.want, readDue := addPlanes ks f.readDue }) t id

/-- The pre-pass of the planes `ks` is to be sent from the source. -/
def wantPrepass (s : State) (t id : Nat) (ks : List Nat) : State :=
  startReads (modFlight s t id fun f => { f with preWant := addPlanes ks f.preWant, readDue := addPlanes ks f.readDue }) t id

/-! ### Accumulator drains (R156 to R160) -/

/-- FIRST_TILE. -/
def firstTile (d : Desc) : Nat := bitsOf d.src 7 0
/-- TILES. -/
def tileCount (d : Desc) : Nat := bitsOf d.src 15 8
/-- Bytes of a tile of the descriptor's format. -/
def tileBytes (d : Desc) : Nat := 16384 * (fmtBits d.fmtIn / 8)

/-- The entry that drains: it has requested a tile and has tiles left, or reads one. -/
def draining (x : Tap) : Option Flight :=
  x.queue.find? fun f => (f.drain.wanted && f.drain.next != 0) || f.drain.reading.isSome

/-- Request the next tile. -/
def drainRequest (s : State) (t id : Nat) : State :=
  onFlight s t id fun s f =>
    if f.drain.next < tileCount f.desc then
      modFlight (emit s (.drainReq t (firstTile f.desc + f.drain.next))) t id fun f => { f with drain := { f.drain with
        next := f.drain.next + 1, held := f.drain.held ++ [f.drain.next], limit := odGet s 0x6020 0x03 } }
    else s

/-- Begin reading the requested tile, and request the one after it (R158). -/
def drainBegin (s : State) (t id : Nat) : State :=
  onFlight s t id fun s f =>
    drainRequest (modFlight s t id fun f => { f with drain := { f.drain with
      reading := some (f.drain.next - 1), settled := false, beats := [] } }) t f.id

/-- With no entry draining, the first one that waits requests its first tile; with nl_core_tile_settled already high the tap reads at once
(R428). -/
def drainNext (s : State) (t : Nat) : State :=
  if (draining (tapAt s t)).isSome then s
  else
    match (tapAt s t).queue.find? fun f => f.drain.wanted with
    | some f =>
      let s := drainRequest s t f.id
      if (tapAt s t).settled then drainBegin (modTap s t fun x => { x with settled := false }) t f.id else s
    | none => s

/-- nl_core_tile_settled rises: the requested tile has settled. With none requested the level stands for the next one. DESIGN CHOICE (log
entry 125). -/
def doTileSettled (t : Nat) (s : State) : State :=
  let keep := modTap s t fun x => { x with settled := true }
  match draining (tapAt s t) with
  | some f =>
    if f.drain.settled then s
    else if !f.drain.wanted then keep
    else
      match f.drain.reading with
      | none => drainBegin s t f.id
      | some r => if r + 1 == f.drain.next then keep
                  else modFlight s t f.id fun f => { f with drain := { f.drain with settled := true } }
  | none => keep

/-- A tile goes back to the core. -/
def tileRelease (s : State) (t id tile : Nat) : State :=
  onFlight s t id fun s f =>
    modFlight (emit s (.tileRelease t (firstTile f.desc + tile))) t id fun f => { f with drain := { f.drain with
      held := f.drain.held.filter fun i => i != tile } }

/-- The tile being read is whole: into the slot, or back to the core at once for a DIGEST or an entry that has failed. The first attempt
is sent from its beats; a pre-pass reads the slot (R161). DEDUCED (log entry 63). -/
def tileDone (s : State) (t id tile : Nat) : State :=
  onFlight s t id fun s f =>
    let d := f.desc
    let bs := f.drain.beats.reverse.flatMap fun b => padTo 256 (b.take 256)
    let live := (f.phase == .running || f.phase == .replanWait) && !f.failing
    let off := tile * tileBytes d
    let s := modFlight s t id fun f => { f with
      source := if live && !d.auto then f.source ++ [(off, bs)] else f.source
      drain := { f.drain with reading := none, beats := [], wanted := f.drain.wanted && tile + 1 != tileCount d } }
    let s := if live && d.op != 8 then addMem s t (writeReqs id (.retain tile) (sourceBase s t f + off) bs)
             else tileRelease s t id tile
    let s := if f.drain.settled && f.drain.wanted then drainBegin s t id else s
    settleCheck (sourceReady (startReads (drainNext s t) t id) t id) t id

/-- A beat of 256 bytes of the tile being read. -/
def doDrainValid (t : Nat) (beat : List Byte) (s : State) : State :=
  match draining (tapAt s t) with
  | some f =>
    match f.drain.reading with
    | some r =>
      let s := modFlight s t f.id fun f => { f with drain := { f.drain with beats := beat :: f.drain.beats } }
      if f.drain.beats.length + 1 == tileBytes f.desc / 256 then tileDone s t f.id r else s
    | none => s
  | none => s

/-- The timer of the requested tile expires. `elapsed` in µs. -/
def doDrainTimeout (t elapsed : Nat) (s : State) : State :=
  match draining (tapAt s t) with
  | some f =>
      let tile := f.drain.next - 1
      if elapsed < f.drain.limit || !f.drain.wanted || f.drain.settled || f.drain.reading == some tile then s
      else drainNext (tapFail s t f.id 0x0002 (firstTile f.desc + tile)) t
  | none => s

/-! ### Starts (R110, R121, R211) -/

/-- Whether a STEP_BARRIER posted before entry `id` is still to complete. -/
def stepFence (x : Tap) (id : Nat) : Bool :=
  (earlier x id).any fun f => f.desc.op == 7 && f.phase != .awaitOriginal && f.status != 3 && f.status != 1

/-- The free retention slot of lowest number. -/
def freeSlot (x : Tap) : Option Nat := if x.slots.getD 0 true then (if x.slots.getD 1 true then none else some 1) else some 0

/-- Whether the descriptor takes a retention slot (R160). DEDUCED (log entry 79). -/
def takesSlot (d : Desc) : Bool := d.drainSrc && d.isData

/-- Refused: a record, a sump record and nothing else (R121, R136, R370, R437). DEDUCED (log entry 70). -/
def refuse (s : State) (t id code cause : Nat) : State :=
  onFlight s t id fun s f =>
    let d := f.desc
    let r := sumpRec code 0 1 t 0xFF 0xFFFFFF cause (u64 (d.bucket.toNat * 2 ^ 32 + d.step.toNat % 2 ^ 32))
    let s := sumpWrite2 s r none
    let e : FailInfo := { noFail with code := code, nodeId := u32 (nodeId s), objKind := 1, obj := t, cause := cause, sumpSeq := sumpSeqOf s r }
    let s := modFlight (tapCnt s t 0x26) t id fun f => { f with phase := .fencing, status := 3, code := code, failed := some e }
    fenceFlight s t id

/-- A duplicate (R127). -/
def startDuplicate (s : State) (t id : Nat) : State :=
  onFlight s t id fun s f =>
    let s := tapCnt s t 0x25
    match (tapAt s t).dups.find? fun e => e.1 == f.desc with
    | some e =>
      let s := modFlight s t id fun f => { f with phase := .recording, status := 1, record := duplicateRecord e.2 }
      tryRecord (modTap s t fun x => { x with recQ := x.recQ ++ [id] }) t
    | none => modFlight s t id fun f => { f with phase := .awaitOriginal }

/-- The first sending of a run: arrivals, the pre-pass or the segments (R94, R124, R209). -/
def launchRun (s : State) (t id : Nat) : State :=
  onFlight s t id fun s f =>
    let d := f.desc
    if d.op == 6 || d.op == 7 then
      if (d.op == 7 || d.orderCq) && !fenceOk (tapAt s t) f then modFlight s t id fun f => { f with phase := .waitArrive }
      else sendArrival s t id
    else if d.auto && !d.frozen then wantPrepass s t id f.planes
    else wantChunks s t id f.planes

/-- A descriptor that has passed its checks starts, whatever RETAIN_SIZE is (R160). DEDUCED (log entry 79); DESIGN CHOICE
(log entry 114). -/
def startFlight (s : State) (t id : Nat) : State :=
  onFlight s t id fun s f =>
    let d := f.desc
    let planes := if d.isPlane then activePlanes s else []
    let s := dogRestart s t
    let slot := if takesSlot d then freeSlot (tapAt s t) else none
    let s := modTap s t fun x => { x with slots := match slot with | some n => x.slots.set n true | none => x.slots }
    let s := modFlight s t id fun f => { f with
      phase := .running, gtcStart := gtcNow s, planes := planes, slot := slot, anchor := d.anchor, limits := bucketLimits s
      epochs := planes.map fun k => (k, epochOf s k)
      drain := { f.drain with wanted := d.drainSrc && !d.frozen } }
    let s := if d.isData then forAll planes s fun s k => audAdd s (0x7080 + t) (0x01 + k) 1 else s
    if d.op == 9 then fenceFlight (modFlight s t id fun f => { f with phase := .fencing, status := 0 }) t id
    else if d.op == 8 then
      if d.drainSrc then drainNext s t
      else startReads (modFlight s t id fun f => { f with readDue := [0] }) t id
    else if d.drainSrc && !d.frozen then
      drainNext (modFlight s t id fun f =>
        if d.auto then { f with preWant := planes, readDue := planes } else { f with want := planes }) t
    else launchRun s t id

/-- The descriptor at the head of the unstarted queue is checked and starts, where R110, R160, R211 and R420 let it. DEDUCED (log entry 79). -/
def doDescStart (t : Nat) (s : State) : State :=
  let x := tapAt s t
  match x.queue.find? fun f => f.phase == .queued with
  | none => s
  | some f =>
    if x.state != .active || x.holding || s.resetting || stepFence x f.id then s
    else if fabricAsleep s || !s.power.common || (activePlanes s).any fun k => !s.power.planes.getLsbD k then startFabric s
    else
      match startCheck s t f with
      | .refuse code cause => kick (refuse s t f.id code cause) t
      | .duplicate => kick (startDuplicate s t f.id) t
      | .start =>
        if takesSlot f.desc && (freeSlot x).isNone then
          if f.slotWait then s else modFlight (tapCnt s t 0x28) t f.id fun f => { f with slotWait := true }
        else kick (startFlight s t f.id) t

end Sys2Proof.Machine
end

