-- ==== Sys2Proof/Machine/Taps.lean ====
section
/-! DEFINITION. What reaches a tap while its descriptors run: tailrace messages (R14, R87 to R94, R112 to R118, R180, R182, R210,
R214), aborts and re-sends (R132, R356, R357, R363), timeouts (R221, R366), re-runs (R364, R365), memory responses (R152, R153),
and the handover of records (R189 to R191). -/

namespace Sys2Proof.Machine

/-! ### Progress of a plane operation (R15, R88, R132, R182) -/

/-- Whether an entry takes tailrace messages: started, and its end not decided. -/
def isLive (f : Flight) : Bool := f.phase == .running || f.phase == .waitArrive || f.phase == .replanWait

/-- Row statistics that the participant of rank `r` receives from plane `k` (R178). -/
def rowsDue (f : Flight) (r k : Nat) : Nat :=
  let d := f.desc
  if d.func != 3 || d.frozen || d.cols = 0 then 0
  else
    let c := flightChunk f k
    let w := ownRows d r
    min (c.2 / d.cols) w.2 - max (c.1 / d.cols) w.1

/-- Whether the participant receives the merged part (R181). -/
def mergedDue (f : Flight) (contrib : Nat) : Bool := f.desc.hasStats && !f.desc.frozen && takesResult f.desc contrib

/-- Whether plane `k` counts as delivered (R15, R182). -/
def planeDone (f : Flight) (contrib rank k : Nat) : Bool :=
  f.results.contains k
    && rowsDue f rank k ≤ ((assocGet k f.rowStats).getD []).length
    && (k != f.planes.headD 0 || !mergedDue f contrib || !f.stats.isEmpty)

/-- Whether plane `k` has sent all that it will send of the attempt: a result, a commit token, an abort, or a RETRY that is not run
(R132). DESIGN CHOICE (log entry 116). -/
def planeEnded (f : Flight) (k : Nat) : Bool :=
  f.results.contains k || f.retries.contains k || (assocGet k f.aborts).isSome

/-- The abort of the lowest plane that sent one (R132). -/
def lowestAbort (f : Flight) : FailInfo := (f.planes.findSome? fun k => assocGet k f.aborts).getD noFail

/-- The statistics area (R183, R118): header, row statistics, column statistics, padded to 64 bytes. -/
def statsArea (f : Flight) (rank : Nat) : List Byte :=
  let rows := f.planes.flatMap fun k => (assocGet k f.rowStats).getD []
  let bs := wordsToBytes (headerFor f.desc rank f.stats) ++ f32Bytes rows ++ f32Bytes f.colStats
  padTo (roundUp bs.length 64) bs

/-- Every plane has delivered: the result commits (R15, R117, R183), or the entry ends with a write of its own that failed (R153). -/
def commitFlight (s : State) (t id : Nat) : State :=
  onFlight s t id fun s f =>
    let d := f.desc
    let c := (tapAt s t).contrib
    match f.writeFail with
    | some e => endError s t id e
    | none =>
      let s := if mergedDue f c then addMem s t (writeReqs id .dst (d.dst + statsOffset d c) (statsArea f (tapRank s t))) else s
      settleCheck (modFlight s t id fun f => { f with phase := .settling, status := 0 }) t id

/-- What an attempt has brought is forgotten (R88, R364). -/
def clearAttempt (f : Flight) : Flight :=
  { f with results := [], delivered := [], rowStats := [], stats := [], colStats := [], eddies := [], maxexps := [], retries := []
           outRange := false }

/-- Attempt 1 of an EXACT bucket (R88, R49). -/
def exactRetry (s : State) (t id : Nat) : State :=
  onFlight s t id fun s f =>
    let a := 1 + f.maxexps.foldl (fun m e => max m e.2) (-32768)
    if 32767 < a then tapFail s t id 0x000D 0xFF
    else
      let s := countOut s t id f.planes
      let s := modFlight s t id fun f => { clearAttempt f with attempt := 1, anchor := a, retryRan := true }
      wantChunks s t id f.planes

/-- An entry looks at what its planes have delivered. -/
def progress (s : State) (t id : Nat) : State :=
  onFlight s t id fun s f =>
    if !isLive f then s
    else
      let x := tapAt s t
      let done := f.planes.filter (planeDone f x.contrib (tapRank s t))
      let s := modFlight s t id fun f => { f with delivered := done }
      if f.phase == .replanWait then s
      else if !f.aborts.isEmpty then
        if f.planes.all (planeEnded f) then endError s t id (lowestAbort f) else s
      else if f.failing then s
      else if f.desc.exact && f.attempt == 0 && !f.retries.isEmpty then
        if f.planes.all (planeEnded f) then exactRetry s t id else s
      else if f.planes.all done.contains then commitFlight s t id
      else s

/-! ### Tailrace messages -/

/-- A tailrace message that the tap drops and counts (R356, R365). DEDUCED (log entry 84). -/
def tapDrop (s : State) (t : Nat) : State := tapCnt s t 0x25

/-- The live entry of a message's key. -/
def liveFlight (x : Tap) (m : Message) : Option Flight :=
  x.queue.find? fun f => f.desc.isPlane && m.bucket == f.desc.bucket && m.step == f.desc.step && isLive f

/-- A tailrace message for an entry of the tap, of the run in force, an active plane and the plane's attempt. -/
def onTailrace (t : Nat) (m : Message) (s : State) (g : State → Flight → State) : State :=
  match liveFlight (tapAt s t) m with
  | none => tapDrop s t
  | some f =>
    if m.run != f.run % 8 || !f.planes.contains m.plane || (m.code != .abort && m.attempt != planeAttempt f m.plane) then tapDrop s t
    else
      let s := modFlight s t f.id fun f => { f with
        paused := f.paused || m.paused, outRange := f.outRange || m.outRange
        chunks := match m.chunk with | some c => assocPut m.plane (c.1, c.1 + c.2) f.chunks | none => f.chunks }
      onFlight s t f.id g

/-- Whether what a plane delivers is written: the bucket can still commit in this run. -/
def stillGood (f : Flight) : Bool := f.phase == .running && !f.failing && f.aborts.isEmpty

/-- The result elements of a message that belong to the participant, at DST (R111 to R115, R154). -/
def storeResult (s : State) (t : Nat) (f : Flight) (m : Message) : State :=
  let d := f.desc
  let c := (tapAt s t).contrib
  if !stillGood f || d.frozen || !takesResult d c then s
  else if d.isArg then
    addMem s t (writeReqs f.id .dst d.dst (m.body.laneList.flatMap fun l => natToBytes l.val.toNat 4))
  else
    let own := ownRange d (tapRank s t)
    let e0 := (flightChunk f m.plane).1 + m.seg * segElems d + m.firstElem
    let a := max e0 own.1
    let ls := (m.body.laneList.drop (a - e0)).take (own.2 - a)
    let sc := ((m.body.scaleList.drop ((a - e0) / 32)).take (ceilDiv ls.length 32)).map fun x => (x + 127).toNat
    let runs := elemRuns d.fmtOut (dstElems d c) d.dst (a - own.1) (ls.map fun l => l.val.toNat) sc
    addMem s t (runs.flatMap fun r => writeReqs f.id .dst r.1 r.2)

/-- Plane `k` has delivered its result or commit token, or a release. DEDUCED (log entry 76). -/
def planeIn (s : State) (t id : Nat) (m : Message) : State :=
  let s := onFlight s t id fun s f => if stillGood f then countIn s t id m.plane else s
  let s := modFlight s t id fun f => { f with
    results := insertNat m.plane f.results
    eddies := assocPut m.plane (m.eddy.getD eddyZero) f.eddies
    maxexps := assocPut m.plane m.maxexp f.maxexps }
  progress s t id

/-- A RESULT message at a tap. -/
def doTapResult (t : Nat) (m : Message) (s : State) : State :=
  onTailrace t m s fun s f =>
    if f.results.contains m.plane then tapDrop s t
    else
      let s := storeResult s t f m
      if m.lastSeg then planeIn s t f.id m else s

/-- A COMMIT at a tap. -/
def doTapCommit (t : Nat) (m : Message) (s : State) : State :=
  onTailrace t m s fun s f => if f.results.contains m.plane then tapDrop s t else planeIn s t f.id m

/-- RETRY at a tap (R87 to R89). A bucket that an abort has already failed runs no retry (R132). -/
def doTapRetry (t : Nat) (m : Message) (s : State) : State :=
  onTailrace t m s fun s f =>
    let k := m.plane
    if f.results.contains k || f.retries.contains k then tapDrop s t
    else if f.desc.disc == 5 && f.aborts.isEmpty && !f.failing && f.phase == .running then
      let s := modFlight s t f.id fun f => { f with
        retried := insertNat k f.retried, scales := assocPut k m.body.scaleList f.scales, retryRan := true }
      wantChunks s t f.id [k]
    else
      let s := modFlight s t f.id fun f => { f with
        retries := insertNat k f.retries, maxexps := assocPut k m.maxexp f.maxexps }
      progress s t f.id

/-- PREPASS_ANSWER at a tap (R94). -/
def doTapAnswer (t : Nat) (m : Message) (s : State) : State :=
  onTailrace t m s fun s f =>
    let k := m.plane
    let d := f.desc
    if !d.auto || d.frozen || (assocGet k f.answers).isSome then tapDrop s t
    else
      let s := modFlight s t f.id fun f => { f with
        answers := assocPut k m.maxexp f.answers, prepassDone := true
        scales := if d.disc == 5 then assocPut k m.body.scaleList f.scales else f.scales }
      if f.failing || f.phase != .running then s
      else if d.disc == 5 then wantChunks s t f.id [k]
      else
        onFlight s t f.id fun s f =>
          if f.answers.length != f.planes.length then s
          else
            let a := 1 + f.answers.foldl (fun m e => max m e.2) (-32768)
            if 32767 < a then tapFail s t f.id 0x000D 0xFF
            else wantChunks (modFlight s t f.id fun f => { f with anchor := a }) t f.id f.planes

/-- STATS_ROW at a tap (R178). -/
def doTapRows (t : Nat) (m : Message) (s : State) : State :=
  onTailrace t m s fun s f =>
    let ws := match m.body with | .rows ws => ws | _ => []
    progress (modFlight s t f.id fun f => { f with rowStats := assocPut m.plane ws f.rowStats }) t f.id

/-- STATS_PARTIAL at a tap: the carrier returns it on the merge plane (R180), where it holds a descriptor of the key in that run
(R356, R365). -/
def doTapPartial (t : Nat) (m : Message) (s : State) : State :=
  let x := tapAt s t
  let held := x.queue.any fun f => inWindow f && f.desc.isPlane && f.desc.bucket == m.bucket && f.desc.step == m.step && f.run % 8 == m.run
  if held && tapBound x.state && x.contrib == carrierOf s m.plane then
    tapUp s t { m with code := .statsPass, plane := mergePlane s, lastSeg := true }
  else tapDrop s t

/-- STATS_MERGED at a tap (R181, R182). -/
def doTapMerged (t : Nat) (m : Message) (s : State) : State :=
  onTailrace t m s fun s f =>
    match m.body with
    | .merged hdr cols =>
      progress (modFlight s t f.id fun f => { f with stats := hdr, colStats := cols }) t f.id
    | _ => s

/-- A release at a tap; `g` is what it does before plane `m.plane` is in. -/
def tapReleased (t : Nat) (m : Message) (g : State → State) (s : State) : State :=
  onTailrace t m s fun s f => if f.results.contains m.plane then tapDrop s t else planeIn (g s) t f.id m

/-- BARRIER_RELEASE at a tap (R210). -/
def doTapRelease (t : Nat) (m : Message) (s : State) : State := tapReleased t m id s

/-- ISSUED, DELIVERED and ACCEPTED of tap `t` on plane `k` are 0 again (R214). -/
def tapRebase (s : State) (t k : Nat) : State :=
  let i := 0x7080 + t
  odSet (odSet (odSet s i (0x01 + k) 0) i (0x09 + k) 0) i (0x11 + k) 0

/-- STEP_RELEASE at a tap: the counters of the plane start again from 0 (R214). -/
def doTapStepRelease (t : Nat) (m : Message) (s : State) : State :=
  tapReleased t m (fun s => tapRebase s t m.plane) s

/-! ### Aborts (R132, R357, R363) -/

/-- Whether the failure is one that a re-send answers (R357). -/
def resendable (e : FailInfo) : Bool :=
  (e.code == 0x000B || e.code == 0x000C || e.code == 0x000E) && (e.objKind == 2 || e.objKind == 5)

/-- Whether the failure makes the bucket eligible for a re-run (R363). DEDUCED (log entry 65). -/
def replannable (s : State) (e : FailInfo) : Bool :=
  e.code == 0x0001 && (e.cause == 0x0F || e.cause == 0x10) && odGet s 0x7010 0x01 == 1

/-- The plane's chunk is sent once more, or its pre-pass or arrival (R357). DEDUCED (log entry 65). -/
def resendPlane (s : State) (t id k : Nat) : State :=
  onFlight s t id fun s f =>
    let no := fun {α : Type} (l : List (Nat × α)) => l.filter fun e => e.1 != k
    let merge := k == f.planes.headD 0
    let s := countOut s t id [k]
    let s := modFlight (tapCnt s t 0x24) t id fun f => { f with
      resent := insertNat k f.resent
      results := f.results.filter fun j => j != k
      delivered := f.delivered.filter fun j => j != k
      retries := f.retries.filter fun j => j != k
      rowStats := no f.rowStats, eddies := no f.eddies, maxexps := no f.maxexps
      stats := if merge then [] else f.stats, colStats := if merge then [] else f.colStats }
    if f.desc.op == 6 || f.desc.op == 7 then
      if f.phase == .waitArrive then s else sendArrivalOn s t f k
    else if f.desc.auto && !f.desc.frozen && (assocGet k f.answers).isNone then wantPrepass s t id [k]
    else if f.desc.auto && !f.desc.frozen && f.desc.exact && f.answers.length != f.planes.length then s
    else wantChunks s t id [k]

/-- The entry waits for a tree epoch (R363). DEDUCED (log entry 65). -/
def enterReplanWait (s : State) (t id : Nat) (e : FailInfo) : State :=
  let s := onFlight (dropReads s t id) t id fun s f => countOut s t id f.planes
  holdAll (modFlight s t id fun f => { f with
    phase := .replanWait, failed := some e, want := [], preWant := [], readDue := [], readOut := false, source := [] })

/-- ABORT at a tap. -/
def doTapAbort (t : Nat) (m : Message) (s : State) : State :=
  onTailrace t m s fun s f =>
    let e := failInfoOf m
    let k := m.plane
    if f.phase == .replanWait then s
    else if !f.failing && resendable e && !f.resent.contains k then resendPlane s t f.id k
    else if !f.failing && replannable s e then enterReplanWait s t f.id e
    else
      let s := countOut s t f.id f.planes
      let s := modFlight s t f.id fun f => { f with
        aborts := if (assocGet k f.aborts).isSome then f.aborts else assocPut k e f.aborts }
      progress s t f.id

/-! ### Timeouts and re-runs (R221, R364 to R366) -/

/-- T_REPLAN passes. `elapsed` in µs, from the abort. -/
def doReplanTimeout (t : Nat) (bucket : U32) (step : U64) (elapsed : Nat) (s : State) : State :=
  if elapsed < odGet s 0x7010 0x02 then s
  else
    match (tapAt s t).queue.find? fun f => f.desc.bucket == bucket && f.desc.step == step && f.phase == .replanWait with
    | some f => endError s t f.id (f.failed.getD noFail)
    | none => s

/-- The backstop of R221. `elapsed` in µs, from the start. DESIGN CHOICE (log entry 5). -/
def doBackstop (t : Nat) (bucket : U32) (step : U64) (elapsed : Nat) (s : State) : State :=
  match (tapAt s t).queue.find? fun f => f.desc.isPlane && f.desc.bucket == bucket && f.desc.step == step
      && (f.phase == .running || f.phase == .waitArrive) with
  | some f =>
      if elapsed < 2 * limitOf f.limits (crossesAdit s) then s
      else if f.planes.all fun k => f.delivered.contains k || (assocGet k f.aborts).isSome then s
      else
        let (s, e) := tapFailure s t f 0x0001 0xFF 0xFFFFFF 0xFF
        endError s t f.id e
  | none => s

/-- One REPLAN_WAIT entry runs again on the planes in force; ISSUED counts it on the planes that the epoch rebased, which are
`rebased` (R364). -/
def rerunFlight (s : State) (t id : Nat) (rebased : List Nat) : State :=
  onFlight s t id fun s f =>
    let planes := activePlanes s
    let s := modFlight (tapCnt s t 0x24) t id fun f => { clearAttempt f with
      phase := .running, run := (f.run + 1) % 8, planes := planes, epochs := planes.map fun k => (k, epochOf s k)
      attempt := 0, retried := [], scales := [], answers := [], anchor := f.desc.anchor, prepassDone := false, retryRan := false
      aborts := [], failing := false, failed := none, replaned := true, begun := false, source := [], limits := bucketLimits s
      chunks := [] }
    let s := if f.desc.isData then
        forAll (planes.filter rebased.contains) s fun s k => audAdd s (0x7080 + t) (0x01 + k) 1 else s
    launchRun s t id

/-- The first tree epoch after the aborts has been applied: every REPLAN_WAIT entry of the tap runs again, in post order. -/
def rerunTap (s : State) (t : Nat) (rebased : List Nat) : State :=
  let ids := ((tapAt s t).queue.filter fun f => f.phase == .replanWait).map (·.id)
  if ids.isEmpty then s
  else
    let s := sump s 0x0105 2 1 t 0xFF 0xFFFFFF ids.length (u64 (lastEpoch s))
    forAll ids s fun s id => rerunFlight s t id rebased

/-! ### Memory responses (R152, R153) -/

/-- The request of a tap that a response answers. -/
def memOf (x : Tap) (tag : Nat) (write : Bool) : Option MemReq := x.mem.find? fun r => r.tag == some tag && r.write == write

/-- The request is done. -/
def memDone (s : State) (t tag : Nat) : State :=
  modTap s t fun x => { x with mem := x.mem.filter fun r => r.tag != some tag }

/-- Data of a read: used only if nothing marks it. -/
def doMemRead (port tag : Nat) (data : List Byte) (poison : Bool) (u : Upset) (s : State) : State :=
  let t := port * 16 + tag / 64
  match memOf (tapAt s t) tag false with
  | none => s
  | some r =>
    let s := memDone s t tag
    let s := onFlight s t r.id fun s f =>
      if f.phase != .running || f.failing then s
      else if poison || u == .ecc then tapFail s t r.id 0x000E 0xFF
      else if u == .residue then tapFail s t r.id 0x000C 0xFF
      else
        match r.role with
        | .source off =>
          sourceReady (modFlight s t r.id fun f => { f with source := f.source ++ [(off, data.drop r.skip)] }) t r.id
        | _ => s
    pumpMem s t

/-- A failed write ends the entry with E_ECC_UNCORR at this tap alone (R153): at once where its planes have all delivered, else when they
have, be it in a re-run. DEDUCED (log entry 76). -/
def writeFailed (s : State) (t id : Nat) : State :=
  onFlight s t id fun s f =>
    if f.writeFail.isSome || f.status == 2 then s
    else
      let (s, e) := tapFailure s t f 0x000E 0xFF (tapAt s t).contrib 0xFF
      let s := modFlight s t id fun f => { f with writeFail := some e }
      if f.phase == .settling then
        modFlight (countOut s t id f.planes) t id fun f => { f with status := 2, code := e.code, failed := some e }
      else s

/-- A write response: the write is visible, or has failed. -/
def doMemWrite (port tag : Nat) (werr : Bool) (s : State) : State :=
  let t := port * 16 + tag / 64
  match memOf (tapAt s t) tag true with
  | none => s
  | some r =>
    let s := memDone s t tag
    let s :=
      match r.role with
      | .record =>
        if (tapAt s t).mem.any fun q => q.role == .record then s
        else if werr then recordFailed s t r.id
        else recordVisible s t r.id
      | .retain i =>
        let s := if werr then writeFailed s t r.id else s
        let s := if (tapAt s t).mem.any fun q => q.id == r.id && q.role == .retain i then s else tileRelease s t r.id i
        startReads s t r.id
      | _ => if werr then writeFailed s t r.id else s
    settleCheck (pumpMem s t) t r.id

/-! ### The end of a save (R163) -/

/-- Whether a started descriptor has read its tiles and sent what its attempt has to send. -/
def flightSent (x : Tap) (f : Flight) : Bool :=
  f.phase != .running ||
    (!f.drain.wanted && f.drain.reading.isNone && f.want.isEmpty && f.preWant.isEmpty && f.readDue.isEmpty && !readsLeft x f.id)

/-- The image is written, and the tap leaves SAVING; unstarted entries are in the image alone. -/
def doSaveDone (t : Nat) (s : State) : State :=
  let x := tapAt s t
  if x.state != .saving || !(startedOf x).all (flightSent x) then s
  else
    let idle := (startedOf x).isEmpty
    let s := modTap s t fun x => { x with ctx := { x.ctx with
      gtcSaved := gtcNow s, gtcFinal := if idle then gtcNow s else 0 } }
    let s := putImage s t (imageOf s t)
    let s := modTap s t fun x => { x with state := .parked, ctxStatus := 2, queue := startedOf x }
    drainKick (if idle then leaveParked s t else s)

/-! ### Handover (R189 to R191) -/

/-- The update unit accepts the record on offer. The cycles it stalled are not stated by the command: a free value. The next record is
offered in a later cycle than this one: with the next acceptance or when the block comes to rest, so that a block reset in the cycle of the
acceptance offers none (R428). DESIGN CHOICE (log entry 77). -/
def doHandover (s : State) : State :=
  let s := offerNow s
  match s.handoverQ with
  | [] => s
  | (t, id) :: rest =>
    let s := audAdd64 (useFree { s with handoverQ := rest, handoverSeq := s.handoverSeq + 1 }) t (freeVal s)
    let s := fenceFlight s t id
    { s with offerDue := !s.handoverQ.isEmpty }
where
  /-- HANDOVER_STALL of the tap grows. -/
  audAdd64 (s : State) (t n : Nat) : State := odSet s (0x7080 + t) 0x22 (min (odGet s (0x7080 + t) 0x22 + n) 0xFFFFFFFFFFFFFFFF)

/-- A response at a memory port: at a tap group's, `f`. At a package port a good one has no effect, the model holding the data itself; a bad
one writes E_ECC_UNCORR (R354). DESIGN CHOICE (log entry 126). -/
def atMemPort (s : State) (port : Nat) (f : Host.Outcome State Fault Refusal) (bad : Bool) : Host.Outcome State Fault Refusal :=
  if port < s.params.leafQuerns then f
  else if port < s.params.memPorts then
    .next (if bad then sump (useFree s) 0x000E 0 6 0 0xFF 0xFFFFFF 3 (u64 (freeVal s)) else s)
  else .fault (.absentUnit "memory port" port)

/-! ### The commands -/

/-- DESC_START (R110, R121). -/
def execDescStart (t : Nat) (s : State) : Host.Outcome State Fault Refusal := withTap s t (doDescStart t)
/-- TILE_SETTLED (R158). -/
def execTileSettled (t : Nat) (s : State) : Host.Outcome State Fault Refusal := withTap s t (doTileSettled t)
/-- CORE_DRAIN_VALID (R158, R430). -/
def execCoreDrainValid (t : Nat) (beat : List Byte) (s : State) : Host.Outcome State Fault Refusal :=
  withTap s t (doDrainValid t beat)
/-- DRAIN_TIMEOUT (R159). -/
def execDrainTimeout (t elapsed : Nat) (s : State) : Host.Outcome State Fault Refusal := withTap s t (doDrainTimeout t elapsed)
/-- MEM_READ_RESPONSE (R152, R153). -/
def execMemReadResponse (port tag : Nat) (data : List Byte) (poison : Bool) (u : Upset) (s : State) :
    Host.Outcome State Fault Refusal :=
  atMemPort s port (withTap s (port * 16 + tag / 64) (doMemRead port tag data poison u)) (poison || u == .ecc)
/-- MEM_WRITE_RESPONSE (R143, R153, R160). -/
def execMemWriteResponse (port tag : Nat) (werr : Bool) (s : State) : Host.Outcome State Fault Refusal :=
  atMemPort s port (withTap s (port * 16 + tag / 64) (doMemWrite port tag werr)) werr
/-- HANDOVER_ACCEPT (R189). -/
def execHandoverAccept (s : State) : Host.Outcome State Fault Refusal := .next (doHandover s)
/-- TAP_BACKSTOP_TIMEOUT (R221). -/
def execTapBackstopTimeout (t : Nat) (bucket : U32) (step : U64) (elapsed : Nat) (s : State) : Host.Outcome State Fault Refusal :=
  withTap s t (doBackstop t bucket step elapsed)
/-- REPLAN_TIMEOUT (R366). -/
def execReplanTimeout (t : Nat) (bucket : U32) (step : U64) (elapsed : Nat) (s : State) : Host.Outcome State Fault Refusal :=
  withTap s t (doReplanTimeout t bucket step elapsed)

end Sys2Proof.Machine
end

