-- ==== Sys2Proof/Machine/Headrace.lean ====
section
/-! DEFINITION. The headrace: how a quern accepts messages on its inputs (R16, R209, R215 to R218), compares agreement sets (R126,
R132, R133), combines (R8, R68 to R97), audits a STEP_BARRIER (R211 to R214), passes statistics (R180), aborts (R356, R357) and pauses
(R222, R223); and the commands that reach taps and querns. -/

namespace Sys2Proof.Machine

/-! ### Agreement (R126, R132) -/

/-- The agreement set of the first message of input `i`, and whether a PREPASS carried it. -/
def firstAgree (e : Entry) (i : Nat) : Option (Agreement × Bool) :=
  match assocGet i e.agrees with
  | some a => some (a, false)
  | none => if e.prepassDone then none else (assocGet (32 + i) e.agrees).map fun a => (a, true)

/-- Whether two agreement sets agree: their 32 bytes are equal (R263). -/
def agreesWith (a b : Agreement × Bool) : Bool := a.1 == b.1

/-- The agreement sets of all inputs, once every one is there. -/
def allAgree (e : Entry) : List InCfg → Option (List (InCfg × (Agreement × Bool)))
  | [] => some []
  | c :: r =>
    match firstAgree e c.input, allAgree e r with
    | some a, some l => some ((c, a) :: l)
    | _, _ => none

/-- The input that disagrees with the reference, with the code: one whose FROZEN differs first. -/
def disagreement : List (InCfg × (Agreement × Bool)) → Option (Nat × InCfg)
  | [] => none
  | (_, r) :: l =>
    match l.find? fun x => x.2.1.frozen != r.1.frozen with
    | some x => some (0x0005, x.1)
    | none => (l.find? fun x => !agreesWith r x.2).map fun x => (0x0006, x.1)

/-! ### Combining -/

/-- The payload of an accepted segment; in SCALED its OVF says that the condition of R86 has arisen. DESIGN CHOICE (log entry 121). -/
def payloadOf (d : Desc) (chunk : Nat × Nat) (m : Message) : Payload :=
  { first := if d.isArg then chunk.1 else chunk.1 + m.seg * segElems d + m.firstElem
    lanes := m.body.laneList, scales := m.body.scaleList
    doomed := d.disc == 5 && m.ovf, sat := d.disc == 5 && m.outRange }

/-- The buffered segment of input `i` at position `s0`. -/
def bufferedAt (e : Entry) (i s0 : Nat) : Option Message := (e.buf.find? fun b => b.1 == i && b.2.seg == s0).map Prod.snd

/-- The buffered segments at the position that is being assembled, once every input has one. -/
def wholePosition (e : Entry) : List InCfg → Option (List (InCfg × Message))
  | [] => some []
  | c :: r =>
    match bufferedAt e c.input e.s0, wholePosition e r with
    | some m, some l => some ((c, m) :: l)
    | _, _ => none

/-- Digests of the ports with those of one position added (R326, R338). -/
def addDigests (d : Desc) (ps : List (Nat × Payload)) (ds : List (Nat × List Nat)) : List (Nat × List Nat) :=
  ps.foldl (fun ds p => assocPut p.1 (eddyAdd ((assocGet p.1 ds).getD eddyZero) (laneDigest d p.2.first p.2.lanes)) ds) ds

/-- The output segment of a position; in SCALED the OVF of the last one carries the condition of R86. DESIGN CHOICE (log entry 121). -/
def outSegment (e : Entry) (d : Desc) (chunk : Nat × Nat) (p : Payload) (last : Bool) : Message :=
  { entryMsg e .segment with
    seg := e.s0
    firstElem := if d.isArg || p.lanes.isEmpty then 0 else p.first - (chunk.1 + e.s0 * segElems d)
    lastSeg := last
    ovf := last && (if d.disc == 5 then e.doomed else e.ovf)
    maxexp := if last then e.maxexp else -32768
    agree := if e.s0 == 0 then e.agree else none
    outRange := e.outRange
    body := .lanes p.lanes p.scales }

/-- One position combined: the entry after it, and the output. -/
def combinePosition (s : State) (q : Nat) (e : Entry) (ins : List (InCfg × Message)) : Entry × Payload × Message :=
  let d := entryDesc e
  let chunk := chunkAt d (activePlanes s) e.plane
  let ps := ins.map fun x => (x.1, payloadOf d chunk x.2)
  let out := combineAll d (bucketKey s d) e.attempt (outSpan s q) (ps.map fun x => (x.1.span.base, x.2))
  let last := e.s0 + 1 == e.nsegs
  let e := { e with
    buf := e.buf.filter fun b => b.2.seg != e.s0
    ovf := e.ovf || (d.exact && ins.any fun x => x.2.lastSeg && x.2.ovf)
    maxexp := ins.foldl (fun m x => if x.2.lastSeg then max m x.2.maxexp else m) e.maxexp
    doomed := e.doomed || out.doomed, outRange := e.outRange || out.sat
    paused := e.paused || ins.any fun x => x.2.paused
    digests := addDigests d ((ps.map fun x => (x.1.input, x.2)) ++ [(16, out)]) e.digests }
  let m := outSegment e d chunk out last
  ({ e with s0 := e.s0 + 1, headDone := last, bitmap := e.buf.foldl (fun l b => if b.2.seg == e.s0 + 1 then insertNat b.1 l else l) [] },
   out, m)

/-- What a plane root keeps of a combined position. -/
def keepAtRoot (d : Desc) (e : Entry) (p : Payload) : Entry :=
  if d.isArg then { e with lanes := entryLanes (betterEntry d (lanesEntry e.lanes) (lanesEntry p.lanes)) }
  else { e with lanes := e.lanes ++ p.lanes, scales := e.scales ++ p.scales }

/-- Every position that is whole is combined and passed on; `fuel` bounds how many. -/
def combineAllWhole (s : State) (q : Nat) (e : Entry) : Nat → State
  | 0 => s
  | fuel + 1 =>
    if e.headDone then s
    else
      match wholePosition e (inputsBySpan s q) with
      | none => s
      | some ins =>
        let d := entryDesc e
        let inj := injectAt s 2 (quernNo s q) [4]
        if inj.1 == 4 then checkFail inj.2 q (some e) (upsetCode d .echo) 2 e.s0
        else
          let (e, out, m) := combinePosition s q e ins
          let s := quernCnt s q 0x12 1
          if isRoot s q e.plane then
            let e := keepAtRoot d e out
            let s := putEntry s q e
            if e.headDone then rootChunk s q e else combineAllWhole s q e fuel
          else combineAllWhole (quernUp (putEntry s q e) q m) q e fuel

/-- The pre-pass exponents of the inputs, by maximum (R94). -/
def maxExps : List (List Int) → List Int
  | [] => []
  | x :: r => r.foldl (fun a b => if a.isEmpty then b else if b.isEmpty then a else (a.zip b).map fun p => max p.1 p.2) x

/-- A whole pre-pass goes up, or is answered. -/
def prepassWhole (s : State) (q : Nat) (e : Entry) : State :=
  let es := maxExps (e.prepass.map Prod.snd)
  let s := putEntry s q { e with prepassDone := true, prepass := [] }
  if isRoot s q e.plane then rootPrepass s q e es
  else quernUp s q { entryMsg e .prepass with lastSeg := true, agree := e.agree, body := .exps es }

/-! ### BARRIER and STEP_BARRIER (R210, R213, R214) -/

/-- A whole BARRIER: one arrival up, or the release down. -/
def barrierWhole (s : State) (q : Nat) (e : Entry) : State :=
  let s := putEntry s q { e with headDone := true, s0 := 1, buf := [] }
  if isRoot s q e.plane then passRelease s q e (entryMsg e .barrierRelease)
  else quernUp s q { entryMsg e .barrierArrive with agree := e.agree }

/-- CREDITS of a port for a plane, as it last sampled them (R271, R296). DEDUCED (log entry 85). -/
def portCredits (s : State) (k : Nat) : PortRef → Nat
  | .lattice p => RegFile.get 0 k (latAt s p).credits
  | .adit a => RegFile.get 0 k (aditAt s a).credits

/-- The ports of a quern on a plane, with the input each feeds and the contributor named. -/
def quernPorts (s : State) (q k : Nat) : List (PortRef × Nat) :=
  ((inputsBySpan s q).filterMap fun c =>
    match c.src with
    | .lattice p => some (.lattice p, lowestOf s k c)
    | .adit a => some (.adit a, lowestOf s k c)
    | _ => none) ++
  match quernOut s q k with
  | .lattice p => [(.lattice p, 0xFFFFFF)]
  | .adit a => [(.adit a, 0xFFFFFF)]
  | _ => []

/-- The number of a port. -/
def portNo : PortRef → Nat
  | .lattice p => p
  | .adit a => a

/-- An audit failure found at the quern: its record, and the failure that the summary carries (R213, R370). -/
def auditFail (s : State) (q k code kind contrib detail want found : Nat) : State × FailInfo :=
  let no := quernNo s q
  let r := sumpRec code 0 kind no k contrib detail (u64 (want % 2 ^ 32 * 2 ^ 32 + found % 2 ^ 32))
  let s := sumpWrite2 s r none
  (s, { code := code, nodeId := u32 (nodeId s), contrib := contrib, plane := k, objKind := kind, obj := no, cause := 0, sumpSeq := sumpSeqOf s r })

/-- The summary of an arrival; a missing one counts as zeros. -/
def summaryOf (m : Message) : StepSummary :=
  match m.body with
  | .summary t => t
  | _ => { issued := 0, delivered := 0, accepted := 0, credits := 0, fail := none }

/-- The node's summary, with its own checks. -/
def quernSummary (s : State) (q : Nat) (e : Entry) (ins : List (InCfg × Message)) : State × StepSummary :=
  let k := e.plane
  let ts := ins.map fun x => (x.1, summaryOf x.2)
  let own := fun (c : InCfg) => RegFile.get 0 (k * 16 + c.input) (quernAt s q).accepted
  let ports := quernPorts s q k
  let bad := ts.find? fun x => own x.1 != x.2.accepted.toNat
  let badPort := ports.find? fun p => portCredits s k p.1 != 0
  let (s', mine) := match bad, badPort with
    | some x, _ =>
      let r := auditFail s q k 0x0012 2 (lowestOf s k x.1) x.1.input (own x.1) x.2.accepted.toNat
      (r.1, some r.2)
    | none, some p =>
      let r := auditFail s q k 0x0011 2 p.2 (portNo p.1) 0 (portCredits s k p.1)
      (r.1, some r.2)
    | none, none => (s, none)
  let sum := fun (f : StepSummary → U32) => ts.foldl (fun (n : U32) x => n + f x.2) 0
  (s', { issued := sum (·.issued), delivered := sum (·.delivered), accepted := sum (·.accepted)
         credits := sum (·.credits) + u32 (ports.foldl (fun n p => n + portCredits s k p.1) 0)
         fail := match ts.findSome? fun x => x.2.fail with | some f => some f | none => mine })

/-- A whole STEP_BARRIER. The plane root's own record concerns no single input: DETAIL 0xFF. DESIGN CHOICE (log entry 118). -/
def stepWhole (s : State) (q : Nat) (e : Entry) (ins : List (InCfg × Message)) : State :=
  let (s, t) := quernSummary s q e ins
  let e := { e with headDone := true, s0 := 1, buf := [], paused := e.paused || ins.any fun x => x.2.paused }
  let s := putEntry s q e
  if isRoot s q e.plane then
    let (s, own) :=
      if t.issued != t.delivered then
        let c := (inputsBySpan s q).foldl (fun n c => min n (lowestOf s e.plane c)) 0xFFFFFF
        let r := auditFail s q e.plane 0x0012 5 c 0xFF t.issued.toNat t.delivered.toNat
        (r.1, some r.2)
      else (s, none)
    match t.fail.or own with
    | some f => abortDown (planeCnt s e.plane 0x05) q (entryAbort e f)
    | none => passStepRelease (planeCnt s e.plane 0x04) q e (entryMsg e .stepRelease)
  else quernUp s q { entryMsg e .stepArrive with agree := e.agree, body := .summary t }

/-! ### The entry looks at what it has -/

/-- Whether TARGET or SOURCE is not occupied, at the plane root (R133). -/
def badTarget (s : State) (q : Nat) (e : Entry) : Bool :=
  let d := entryDesc e
  isRoot s q e.plane && (d.op == 1 || d.op == 4) && !occupiedAt s q e.plane d.target

/-- What follows once every input's first message is there and agrees. DEDUCED (log entry 82). -/
def advanceAgreed (s : State) (q : Nat) (e : Entry) : State :=
  let d := entryDesc e
  let ins := inputsBySpan s q
  if badTarget s q e then failEntry s q e 0x0008 5 d.target 0xFF 0
  else
    match e.buf.find? fun b => e.nsegs ≤ b.2.seg with
    | some b =>
      failEntry (quernCnt s q 0x19 1) q e 0x0003 2 (lowestOf s e.plane (inputAt s q b.1)) b.1 0
    | none =>
      if !e.prepassDone && ins.all fun c => (assocGet c.input e.prepass).isSome then prepassWhole s q e
      else if d.op == 6 then
        match wholePosition e ins with | some _ => barrierWhole s q e | none => s
      else if d.op == 7 then
        match wholePosition e ins with | some l => stepWhole s q e l | none => s
      else
        match wholePosition e ins with
        | some _ => wakeWaiting (combineAllWhole s q e (e.nsegs + 1)) q
        | none => s

/-- The entry's agreement set and arrival counter once a set is known: n × s less what has been accepted (R215). -/
def setAgreement (s : State) (q : Nat) (e : Entry) (a : Agreement) : Entry :=
  let d := a.desc e.bucket e.step
  let n := if d.op == 6 || d.op == 7 then 1 else segCount d (chunkAt d (activePlanes s) e.plane)
  { e with agree := some a, nsegs := n
           counter := (inputsOf s q).length * n - e.got.foldl (fun t g => t + g.2) 0 }

/-- The entry of a key looks at what it has accepted. -/
def advance (s : State) (q : Nat) (bucket : U32) (step : U64) (plane : Nat) : State :=
  match findEntry (quernAt s q) bucket step plane with
  | none => s
  | some e =>
    match allAgree e (inputsBySpan s q) with
    | none => s
    | some l =>
      match disagreement l with
      | some (code, c) => failEntry s q e code 2 (lowestOf s plane c) c.input 0
      | none =>
        match l with
        | [] => s
        | (_, a) :: _ =>
          let e := setAgreement s q e a.1
          advanceAgreed (putEntry s q e) q e

/-! ### Acceptance (R16, R92, R215 to R218) -/

/-- A fresh entry for a message; a higher attempt or another run takes back the earlier passage (R212). -/
def openEntry (s : State) (q : Nat) (m : Message) : State :=
  let s := match findPassed (quernAt s q) m.bucket m.step m.plane with
    | some c => takeBack s q c
    | none => s
  let told := (findClosed (quernAt s q) m.bucket m.step m.plane).bind (·.chunk)
  let marked := (quernAt s q).pausedSpans.any fun p => (inputsOf s q).any fun c => spansMeet p c.span
  let e : Entry := { bucket := m.bucket, step := m.step, plane := m.plane, attempt := m.attempt, run := m.run, paused := marked,
                     limits := bucketLimits s, chunk := told }
  let s := putEntry s q e
  if isRoot s q m.plane then s else quernUp s q (entryMsg e .openNote)

/-- A segment that falls under R92 or R216. -/
def dropDuplicate (s : State) (q : Nat) (m : Message) (sub : Nat) : State :=
  if m.code == .openNote then s else quernCnt s q sub 1

/-- The entry takes a message on input `i`. -/
def acceptOn (s : State) (q i : Nat) (m : Message) (e : Entry) : State :=
  let e := { e with paused := e.paused || m.paused }
  match m.code with
  | .openNote => putEntry s q { e with opened := insertNat i e.opened }
  | .prepass =>
    if e.prepassDone || (assocGet i e.prepass).isSome then dropDuplicate s q m 0x15
    else
      let es := match m.body with | .exps es => es | _ => []
      let e := { e with
        prepass := assocPut i es e.prepass
        agrees := match m.agree with | some a => assocPut (32 + i) a e.agrees | none => e.agrees }
      advance (putEntry s q e) q m.bucket m.step m.plane
  | _ =>
    if m.seg < e.s0 || (bufferedAt e i m.seg).isSome then dropDuplicate s q m 0x15
    else if e.headDone then failEntry (quernCnt s q 0x19 1) q e 0x0003 2 (lowestOf s e.plane (inputAt s q i)) i 0
    else
      let e := { e with
        buf := e.buf ++ [(i, m)]
        got := assocPut i ((assocGet i e.got).getD 0 + 1) e.got
        counter := e.counter - 1
        bitmap := if m.seg == e.s0 then insertNat i e.bitmap else e.bitmap
        agrees := match m.agree with | some a => assocPut i a e.agrees | none => e.agrees }
      let e := match e.agree, m.agree with
        | none, some a => setAgreement s q e a
        | _, _ => e
      advance (putEntry s q e) q m.bucket m.step m.plane

/-- Whether an earlier message of the same stream waits at the input. -/
def waitsBehind (x : Quern) (i : Nat) (m : Message) : Bool := x.waiting.any fun w => waitsAs w (i, m)

/-- A message waits at its input, or at the unit of the die that sends it. DESIGN CHOICE (log entry 27). -/
def waitAt (s : State) (q i : Nat) (m : Message) : State :=
  modQuern s q fun x => { x with waiting := x.waiting ++ [(i, m)] }

/-- A message of a key without an open entry: a duplicate of a closed key, or it opens an entry, or it waits for one (R16, R216). -/
def collectFresh (s : State) (q i : Nat) (m : Message) : State :=
  let x := quernAt s q
  let open_ := fun (s : State) =>
    if 256 ≤ (quernAt s q).entries.length then waitAt (quernCnt s q 0x17 1) q i m
    else
      let s := openEntry s q m
      match findEntry (quernAt s q) m.bucket m.step m.plane with
      | some e => acceptOn s q i m e
      | none => s
  match findClosed x m.bucket m.step m.plane with
  | some c =>
    if m.run == c.run && m.attempt ≤ c.attempt then
      dropDuplicate s q m (if c.retried || m.attempt < c.attempt then 0x13 else 0x15)
    else open_ s
  | none => open_ s

/-- A message on a present input with the span configured for it. -/
def collect (s : State) (q i : Nat) (m : Message) : State :=
  match findEntry (quernAt s q) m.bucket m.step m.plane with
  | none => collectFresh s q i m
  | some e =>
    if m.run != e.run then
      if laterRun m.run e.run then collectFresh (dropEntry (unpass s q e) q e) q i m else dropDuplicate s q m 0x15
    else if m.attempt < e.attempt then dropDuplicate s q m 0x13
    else if e.attempt < m.attempt then collectFresh (dropEntry (unpass s q e) q e) q i m
    else acceptOn s q i m e

/-- An entry that stands for a message without one. -/
def strayEntry (m : Message) : Entry :=
  { bucket := m.bucket, step := m.step, plane := m.plane, attempt := m.attempt, run := m.run, paused := m.paused }

/-- A segment on an input that is not present, or with another span (R217). -/
def unexpected (s : State) (q i : Nat) (m : Message) : State :=
  let e := (findEntry (quernAt s q) m.bucket m.step m.plane).getD (strayEntry m)
  failEntry (quernCnt s q 0x19 1) q e 0x0004 2 m.span.base i 0

/-- A statistics-pass segment (R180), dropped under R92 where a later attempt is open or RETRY has been passed. A part of a SCALED bucket
is not superseded by plane M's own retry (log entry 16). -/
def statsUp (s : State) (q i : Nat) (m : Message) : State :=
  let late := match findEntry (quernAt s q) m.bucket m.step m.plane, findClosed (quernAt s q) m.bucket m.step m.plane with
    | some e, _ => !((entryDesc e).disc == 5) && e.run == m.run && m.attempt < e.attempt
    | none, some c =>
      let scaled := match c.agree with | some a => (a.desc m.bucket m.step).disc == 5 | none => false
      !scaled && c.run == m.run && (m.attempt < c.attempt || (c.retried && m.attempt ≤ c.attempt))
    | none, none => false
  if late then quernCnt s q 0x13 1
  else if !spanHas (inputAt s q i).span (carrierOf s m.plane) then quernCnt s q 0x15 1
  else
    let s := quernCnt s q 0x16 1
    if isRoot s q m.plane then
      let slots := match m.body with | .slots l => l | _ => []
      tryMerge (putPart s q m.bucket m.step m.run m.firstElem m.attempt slots) q m.bucket m.step m.plane
    else quernUp s q m

/-- Whether a message has to wait at its input: behind an earlier one of its stream, or, a segment, for one of the two segment buffers
(R6, R7, R16). -/
def mustWait (s : State) (q i : Nat) (m : Message) : Bool :=
  waitsBehind (quernAt s q) i m || (m.code == .segment && 2 ≤ buffersUsed s q i)

/-- A message reaches a served position. DEDUCED (log entry 81). -/
def quernTakes (s : State) (q i : Nat) (m : Message) (u : Upset) : State :=
  let x := quernAt s q
  let e := (findEntry x m.bucket m.step m.plane).getD (strayEntry m)
  let d := match m.agree with | some a => a.desc m.bucket m.step | none => entryDesc e
  let inj := if m.code == .segment then injectAt s 2 (quernNo s q) [1, 2, 3] else (0, s)
  let s := inj.2
  let s := if inj.1 == 1 || inj.1 == 2 then cnt s 0x7000 0x0E else s
  let u := if inj.1 == 3 then Upset.ecc else u
  let c := inputAt s q i
  if x.refusedInputs.contains i then s
  else if m.code == .statsPass && (c.src == .none || 16 ≤ i) then quernCnt s q 0x15 1
  else if c.src == .none || 16 ≤ i || (m.code != .statsPass && m.span != c.span) then unexpected s q i m
  else if u != .none then
    let root := m.code == .statsPass && isRoot s q m.plane
    checkFail s q (some e) (upsetCode d u) (if root then 5 else 2) m.seg
  else if mustWait s q i m then waitAt s q i m
  else if m.code == .statsPass then statsUp s q i m
  else collect s q i m

/-- A message at a position that is fenced for good: the first message of a bucket draws an ABORT (R357). DEDUCED (log entry 86). -/
def fencedTakes (s : State) (q : Nat) (m : Message) : State :=
  match (quernAt s q).fenceFail with
  | some f => if m.agree.isSome then abortUp s q (entryAbort (strayEntry m) { f with plane := m.plane }) else s
  | none => s

/-- A message from below on input `i` of position `q`; a segment that leaves its buffer empty lets in what waits at the input. -/
def doUpward (q i : Nat) (m : Message) (u : Upset) (s : State) : State :=
  let x := quernAt s q
  let t :=
    if !(planesOf s q).contains m.plane then s
    else if x.switching.isSome then waitAt s q i m
    else if x.server.isNone then fencedTakes s q m
    else quernTakes s q i m u
  if (planesOf s q).contains m.plane && m.code == .segment && buffersUsed t q i ≤ buffersUsed s q i && inputWaits t q i then
    post t (.waitingSegmentAccepted q i)
  else t

/-- The messages that wait at an input are offered again, in order (R16, R355). -/
def doWaiting (q i : Nat) (s : State) : State :=
  let ms := ((quernAt s q).waiting.filter fun w => w.1 == i).map Prod.snd
  if (quernAt s q).switching.isSome then s
  else
    let s := modQuern s q fun x => { x with waiting := x.waiting.filter fun w => w.1 != i }
    forAll ms s fun s m => doUpward q i m .none s

/-- A spare has taken a position (R355). -/
def doSpareSwitch (spare : Nat) (s : State) : State :=
  forAll (List.range s.params.positions) s fun s q =>
    if (quernAt s q).switching == some spare then
      let old := quernNo' s q
      let s := modQuern s q fun x => { x with server := some spare, switching := none, fenceFail := none }
      wakeWaiting (sump s 0x0103 2 2 spare 0xFF 0xFFFFFF old (gtcNow s)) q
    else s
where
  /-- The quern whose failure the position kept: the replaced one. -/
  quernNo' (s : State) (q : Nat) : Nat :=
    match (quernAt s q).fenceFail with
    | some f => f.obj
    | none => q

/-! ### Aborts from below (R356, R357) -/

/-- ABORT on input `i`: what waits there of its key is discarded too. -/
def doAbortUp (q i : Nat) (m : Message) (s : State) : State :=
  let port := match (inputAt s q i).src with | .lattice _ => true | .adit _ => true | _ => false
  let s := if port then planeCnt s m.plane 0x06 else s
  let mine := fun (w : Nat × Message) => w.1 == i && isKey w.2.bucket w.2.step m.bucket m.step && w.2.plane == m.plane
  let n := ((quernAt s q).waiting.filter mine).length
  let s := modQuern s q fun x => { x with waiting := x.waiting.filter fun w => !mine w }
  let s := if n = 0 then s else quernCnt s q 0x14 n
  if (planesOf s q).contains m.plane then abortUp s q m else s

/-- ABORT at a tap or a quern (R132). -/
def doAbort (a : Arrival) (m : Message) (s : State) : State :=
  match a with
  | .up q i => doAbortUp q i m s
  | .down (.tap t) => doTapAbort t m s
  | .down (.quern q) => doQuernAbort q m s

/-! ### Pause (R222, R223) -/

/-- The spans of a notice. -/
def spansOf (m : Message) : List Span :=
  match m.body with
  | .spans l => l
  | _ => []

/-- A quern marks spans as paused; entries open now are marked. A span that is paused already keeps the time of its notice. -/
def markPaused (s : State) (q : Nat) (l : List Span) : State :=
  let hit := (inputsOf s q).any fun c => l.any fun p => spansMeet p c.span
  modQuern s q fun x =>
    let new := l.filter fun p => !x.pausedSpans.contains p
    { x with
    notices := if new.isEmpty then x.notices else x.notices ++ [(odGet s 0x6020 0x06, new)]
    entries := if hit then x.entries.map fun e => { e with paused := true } else x.entries }

/-- A PAUSE notice at a quern. -/
def doPauseNotice (q : Nat) (m : Message) (s : State) : State :=
  let s := markPaused s q (spansOf m)
  if isRoot s q m.plane then s else quernUp s q m

/-- A RESUME notice at a quern. -/
def doResumeNotice (q : Nat) (m : Message) (s : State) : State :=
  let s := modQuern s q fun x => { x with
    notices := (x.notices.map fun n => (n.1, n.2.filter fun p => !(spansOf m).contains p)).filter fun n => !n.2.isEmpty }
  if isRoot s q m.plane then s else quernUp s q m

/-- The notice of the instance's leaf querns goes up every active plane (R222). -/
def sendNotice (s : State) (code : MsgCode) : State :=
  let spans := ((List.range s.params.leafQuerns).filter fun g => !(inputsOf s g).isEmpty).map fun g => outSpan s g
  forAll (activePlanes s) s fun s k =>
    post s (arriveUp (s.params.leafQuerns + k) 0 { code := code, plane := k, body := .spans spans })

/-- PAUSE on an instance with taps: its leaf querns mark their spans first. -/
def doPause (s : State) : State :=
  let s := forAll (List.range s.params.leafQuerns) s fun s g => markPaused s g [outSpan s g]
  sendNotice (odSet s 0x6030 0x02 1) .pause

/-- RESUME. -/
def doResume (s : State) : State :=
  let s := forAll (List.range s.params.leafQuerns) s fun s g => modQuern s g fun x => { x with notices := [] }
  sendNotice (odSet s 0x6030 0x02 0) .resume

/-- T_PAUSE_MAX passes at a quern for the oldest of its notices. `elapsed` in µs, from that notice. DESIGN CHOICE (log entry 5). -/
def doPauseExpiry (q elapsed : Nat) (s : State) : State :=
  if elapsed < (quernAt s q).pauseLimit || (quernAt s q).notices.isEmpty then s
  else
    let s := modQuern s q fun x => { x with notices := x.notices.drop 1 }
    if isLeaf s q && odGet s 0x6030 0x02 == 1 then odSet s 0x6030 0x02 2 else s

/-! ### Downward messages at a tap or a quern -/

/-- A tailrace message whose codeword is lost at the tap: its bucket fails with E_ECC_UNCORR (R336, R354). -/
def tapLost (t : Nat) (m : Message) (s : State) : State :=
  match liveFlight (tapAt s t) m with
  | some f => if m.run == f.run % 8 && f.planes.contains m.plane && stillGood f then tapFail s t f.id 0x000E 0xFF else tapDrop s t
  | none => tapDrop s t

/-- A tailrace message whose codeword is lost in a quern: a check failure of the quern (R336, R354, R355). -/
def quernLost (q : Nat) (m : Message) (s : State) : State :=
  if (planesOf s q).contains m.plane then
    checkFail s q (some ((findEntry (quernAt s q) m.bucket m.step m.plane).getD (strayEntry m))) 0x0E 2 m.seg
  else s

/-- A downward message to a tap or to a served quern, whose codeword the replication there may have lost (R336). -/
def doTail (m : Message) (u : Downward) (tap : Nat → State → State) (quern : Nat → State → State) (s : State) : State :=
  match u.unit with
  | .tap t => if u.upset == .ecc then tapLost t m s else tap t s
  | .quern q => whenServed s q (if u.upset == .ecc then quernLost q m else quern q)

/-- A downward message to a tap or to a served quern. -/
def doDown (u : UnitRef) (tap : Nat → State → State) (quern : Nat → State → State) (s : State) : State :=
  match u with
  | .tap t => tap t s
  | .quern q => whenServed s q (quern q)

/-! ### The commands -/

/-- SEGMENT (R215). -/
def execSegment (q input : Nat) (m : Message) (u : Upset) (s : State) : Host.Outcome State Fault Refusal :=
  withQuern s q (doUpward q input { m with code := .segment } u)
/-- SPARE_SWITCH_DONE (R355). -/
def execSpareSwitchDone (spare : Nat) (s : State) : Host.Outcome State Fault Refusal := .next (doSpareSwitch spare s)
/-- PREPASS (R94). -/
def execPrepass (q input : Nat) (m : Message) (s : State) : Host.Outcome State Fault Refusal :=
  withQuern s q (doUpward q input { m with code := .prepass } .none)
/-- PREPASS_ANSWER (R94). -/
def execPrepassAnswer (u : Downward) (m : Message) (s : State) : Host.Outcome State Fault Refusal :=
  let m := { m with code := .prepassAnswer }
  withUnit s u.unit (doTail m u (doTapAnswer · m) (doQuernAnswer · m))
/-- RESULT (R14). -/
def execResult (u : Downward) (m : Message) (s : State) : Host.Outcome State Fault Refusal :=
  let m := { m with code := .result }
  withUnit s u.unit (doTail m u (doTapResult · m) (doQuernResult · m))
/-- COMMIT (R14). -/
def execCommit (u : Downward) (m : Message) (s : State) : Host.Outcome State Fault Refusal :=
  let m := { m with code := .commit }
  withUnit s u.unit (doTail m u (doTapCommit · m) (doQuernCommit · m))
/-- RETRY (R87). -/
def execRetry (u : Downward) (m : Message) (s : State) : Host.Outcome State Fault Refusal :=
  let m := { m with code := .retry }
  withUnit s u.unit (doTail m u (doTapRetry · m) (doQuernRetry · m))
/-- STATS_ROW (R178). -/
def execStatsRow (u : Downward) (m : Message) (s : State) : Host.Outcome State Fault Refusal :=
  let m := { m with code := .statsRow }
  withUnit s u.unit (doTail m u (doTapRows · m) (doQuernRows · m))
/-- STATS_PARTIAL (R180). -/
def execStatsPartial (u : Downward) (m : Message) (s : State) : Host.Outcome State Fault Refusal :=
  let m := { m with code := .statsPartial }
  withUnit s u.unit (doTail m u (doTapPartial · m) (doQuernPartial · m))
/-- STATS_PASS (R180). -/
def execStatsPass (q input : Nat) (m : Message) (u : Upset) (s : State) : Host.Outcome State Fault Refusal :=
  withQuern s q (doUpward q input { m with code := .statsPass } u)
/-- STATS_MERGED (R181). -/
def execStatsMerged (u : Downward) (m : Message) (s : State) : Host.Outcome State Fault Refusal :=
  let m := { m with code := .statsMerged }
  withUnit s u.unit (doTail m u (doTapMerged · m) (doQuernMerged · m))
/-- OPEN (R218). -/
def execOpenNote (q input : Nat) (m : Message) (s : State) : Host.Outcome State Fault Refusal :=
  withQuern s q (doUpward q input { m with code := .openNote } .none)
/-- ABORT (R132, R356). -/
def execAbort (a : Arrival) (m : Message) (s : State) : Host.Outcome State Fault Refusal :=
  match a with
  | .up q _ => withQuern s q (doAbort a { m with code := .abort })
  | .down u => withUnit s u (doAbort a { m with code := .abort })
/-- BARRIER_ARRIVE (R209). -/
def execBarrierArrive (q input : Nat) (m : Message) (s : State) : Host.Outcome State Fault Refusal :=
  withQuern s q (doUpward q input { m with code := .barrierArrive } .none)
/-- BARRIER_RELEASE (R210). -/
def execBarrierRelease (u : UnitRef) (m : Message) (s : State) : Host.Outcome State Fault Refusal :=
  withUnit s u (doDown u (doTapRelease · { m with code := .barrierRelease }) (doQuernRelease · { m with code := .barrierRelease }))
/-- STEP_ARRIVE (R211). -/
def execStepArrive (q input : Nat) (m : Message) (s : State) : Host.Outcome State Fault Refusal :=
  withQuern s q (doUpward q input { m with code := .stepArrive } .none)
/-- STEP_RELEASE (R214). -/
def execStepRelease (u : UnitRef) (m : Message) (s : State) : Host.Outcome State Fault Refusal :=
  withUnit s u (doDown u (doTapStepRelease · { m with code := .stepRelease }) (doQuernStepRelease · { m with code := .stepRelease }))
/-- PAUSE (R222). -/
def execPause (q input : Nat) (m : Message) (s : State) : Host.Outcome State Fault Refusal :=
  let _ := input
  withQuern s q (doPauseNotice q { m with code := .pause })
/-- RESUME (R222). -/
def execResume (q input : Nat) (m : Message) (s : State) : Host.Outcome State Fault Refusal :=
  let _ := input
  withQuern s q (doResumeNotice q { m with code := .resume })
/-- BUCKET_TIMEOUT (R219, R220). -/
def execBucketTimeout (q plane : Nat) (bucket : U32) (step : U64) (elapsed : Nat) (s : State) : Host.Outcome State Fault Refusal :=
  withQuern s q (doBucketTimeout q plane bucket step elapsed)
/-- PAUSE_EXPIRY (R223). -/
def execPauseExpiry (q elapsed : Nat) (s : State) : Host.Outcome State Fault Refusal := withQuern s q (doPauseExpiry q elapsed)

end Sys2Proof.Machine
end

