-- ==== Sys2Proof/Machine/Time.lean ====
section
/-! DEFINITION. The GTC, its servo and states, time messages, and the launch (R228 to R244). -/

namespace Sys2Proof.Machine

/-- The GTC in units of 2^-16 ns, the unit of stamps (R233). DESIGN CHOICE (log entry 28). -/
def now16 (s : State) : Nat := (gtcNow s).toNat * 65536 + s.gtc.frac.toNat / 65536

/-- The stamp of a time message in units of 2^-16 ns. -/
def stamp16 (ns frac : Nat) : Nat := ns * 65536 + frac

/-- A stamp in ps: whole ps, rounded down, and no bound on the size of a difference. DESIGN CHOICE (log entry 111). -/
def stampPs (x : Nat) : Int := ((x * 1000 / 65536 : Nat) : Int)

/-! ### The time tree (R231) -/

/-- A port number as one byte: [7:6] 0 lattice, 1 adit; [5:0] port (R393; for TIME_PARENT DEDUCED, log entry 17). -/
def portOfByte (n : Nat) : PortRef := if bitsOf n 7 6 = 1 then .adit (n % 64) else .lattice (n % 64)
/-- The byte of a port. -/
def byteOfPort : PortRef → Nat
  | .lattice p => p % 64
  | .adit a => 64 + a % 64

/-- Whether the instance is the time root, and its time parent port. DEDUCED (log entry 17). -/
def timeRole (s : State) : Bool × Option PortRef :=
  if s.gtc.parent = 0xFFFE then (true, none)
  else if s.gtc.parent = 0xFFFF then
    match activePlanes s with
    | [] => (false, none)
    | k :: _ => if cfg s (0x2210 + k) 0x02 == 1 then (true, none) else (false, parentPort s k)
  else (false, some (portOfByte s.gtc.parent))

/-- The time parent port in a sump record: all ones for none. -/
def timeParentNo (s : State) : Nat :=
  match (timeRole s).2 with
  | some p => byteOfPort p
  | none => 0xFFFF

/-- Whether a port carries VC 3 and VC 4 (R255, R287). -/
def portUp (s : State) (p : PortRef) : Bool :=
  match p with
  | .lattice p => p < s.params.latticePorts &&
      (match (latAt s p).state with | .active => true | .recovering => true | .quiet => true | _ => false)
  | .adit a => a < s.params.aditPorts &&
      (match (aditAt s a).state with | .active => true | .recovering => true | .quiet => true | _ => false)

/-- A time message put on a port; its send time is stamped as it leaves (R232). -/
def sendTime (s : State) (p : PortRef) (m : TimeMsg) : State :=
  if portUp s p then queueFlits s p [{ vc := 4, time := some m }] else s

/-! ### States and bounds (R236 to R238) -/

/-- GTC_STATE. -/
def GtcState.no : GtcState → Nat
  | .free => 0 | .acquire => 1 | .locked => 2 | .holdover => 3 | .lost => 4

/-- The bound per hop of the link to the time parent (R238). -/
def linkBound (s : State) : Option PortRef → Nat
  | some (.lattice _) => 4
  | some (.adit a) => odGet s 0x6041 (0x11 + a)
  | none => 0xFFFFFFFF

/-- ERROR_BOUND in ns; sums saturate at all ones. DEDUCED (log entry 29). -/
def errorBound (s : State) : Nat :=
  let base := s.gtc.parentBound + linkBound s (timeRole s).2
  match s.gtc.state with
  | .free => if (timeRole s).1 then 0 else 0xFFFFFFFF
  | .locked => min base 0xFFFFFFFF
  | .holdover => min (base + 50 * (s.gtc.holdNs / 1000000000)) 0xFFFFFFFF
  | _ => 0xFFFFFFFF

/-- A launch that is ARMED becomes ABORTED (R243). -/
def abortLaunch (s : State) : State := if s.launch == .armed then { s with launch := .aborted } else s

/-- The instance enters LOST (R237). -/
def gtcLost (s : State) : State :=
  let s := { s with gtc := { s.gtc with state := .lost, goodWindows := 0, badWindows := 0 } }
  abortLaunch (sump s 0x0016 0 6 0 0xFF 0xFFFFFF (timeParentNo s) (u64 (odGet s 0x6040 0x03)))

/-- The time root is always in FREE and corrects nothing (R231, R236). -/
def timeRootCheck (s : State) : State :=
  if (timeRole s).1 then
    { s with gtc := { s.gtc with state := .free, rate := 0, integ := 0, samples := [], outstanding := [] } }
  else s

/-! ### The launch (R241 to R243) -/

/-- The release: line 15 reads 1 at every tap (R243). -/
def doLaunchFire (s : State) : State :=
  if s.launch == .armed && odGet s 0x6050 0x01 ≤ (gtcNow s).toNat then
    odSet (odSet { s with launch := .fired } 0x6050 0x04 (gtcNow s).toNat) 0x6050 0x07 (errorBound s)
  else s

/-- LAUNCH_AT - 20 µs: the fabric clock starts or the instance wakes (R243, R408). -/
def doLaunchLead (s : State) : State :=
  if s.launch == .armed && odGet s 0x6050 0x01 ≤ (gtcNow s).toNat + 20000 then startCommon (wakeTrigger s) else s

/-- The first condition of ARM that fails, in the order of R242; 0 for none. DEDUCED (log entry 40). -/
def armRefusal (s : State) : Nat :=
  let ok1 := if (timeRole s).1 then s.gtc.state == .free else s.gtc.state == .locked
  if !ok1 then 1
  else if odGet s 0x6050 0x01 < (gtcNow s).toNat + odGet s 0x6050 0x05 * 1000 then 2
  else if odGet s 0x6050 0x06 < errorBound s then 3
  else if arrivalPending s 15 then 4
  else if s.launch != .idle then 5
  else 0

/-- DISARM (R243). -/
def doDisarm (s : State) : State :=
  match s.launch with
  | .armed => { s with launch := .aborted }
  | .fired => { s with launch := .idle }
  | .aborted => { s with launch := .idle }
  | .idle => s

/-! ### The counter (R228) -/

/-- What a tick adds, in units of 2^-32 ns: 10 ns at the servo rate. -/
def tickInc (rate : Int) : Int := 10 * 2 ^ 32 + (10 * 2 ^ 32 * rate).tdiv 1000000000000

/-- The counter and its fraction moved by `d` units of 2^-32 ns. -/
def gtcMove (g : Gtc) (d : Int) : Gtc :=
  let t := (((g.count.toNat * 2 ^ 32 + g.frac.toNat : Nat) : Int) + d) % (2 ^ 96 : Nat)
  { g with count := u64 (t.toNat / 2 ^ 32), frac := u32 (t.toNat % 2 ^ 32) }

/-- GTC_TICK: the launch acts as the count passes its marks. WS_MBIST_AON stops the count (R436). DESIGN CHOICE (log entry 28). -/
def doTick (s : State) : State :=
  if s.testAcc.mode && s.testAcc.wir == 5 then s else
  let g := gtcMove s.gtc (tickInc s.gtc.rate)
  let g := if g.state == .holdover then { g with holdNs := g.holdNs + 10 } else g
  doLaunchFire (doLaunchLead { s with gtc := { g with sub := 0 }, uptime := s.uptime + 10 })

/-! ### Exchanges (R232, R234) -/

/-- TIME_REQ_SEND: SYNC_INTERVAL has passed. `elapsed` in µs. A Dormant instance makes one exchange in a window. Of more than four
requests the oldest is given up (log entry 18). DEDUCED (log entry 30). -/
def doTimeReqSend (elapsed : Nat) (s : State) : State :=
  if elapsed < odGet s 0x6040 0x08 then s
  else
    let quiet := s.power.state == .dormant && 0 < s.gtc.exchanges
    let first := { s with gtc := { s.gtc with exchanges := s.gtc.exchanges + 1 } }
    match timeRole s with
    | (false, some p) =>
      if quiet then first
      else
        let g := first.gtc
        let out := (if 4 ≤ g.outstanding.length then g.outstanding.drop 1 else g.outstanding) ++ [g.nextReq]
        let m : TimeMsg := { kind := 1, state := g.state.no, seq := g.nextReq, tTx := 0 }
        sendTime { first with gtc := { g with outstanding := out, nextReq := g.nextReq + 1 } } p m
    | _ => first

/-- A REQ arrives at a port with its arrival stamp in units of 2^-16 ns: the RESP. -/
def timeReqAt (s : State) (p : PortRef) (m : TimeMsg) (arrival : Nat) : State :=
  if (timeRole s).2 == some p then s
  else
    sendTime s p { kind := 2, state := s.gtc.state.no, seq := m.seq, tTx := 0, tRx := arrival / 65536, tRxFrac := arrival % 65536,
                   tEcho := m.tTx, tEchoFrac := m.tTxFrac, bound := u32 (errorBound s) }

/-- The asymmetry of a link in ps (R234). -/
def asymOf (s : State) : PortRef → Int
  | .lattice _ => 0
  | .adit a => signedOf (odGet s 0x6041 (0x01 + a)) 32

/-- The sample of a RESP (R234). -/
def sampleOf (m : TimeMsg) (asym : Int) (arrival : Nat) : Sample :=
  let t1 := stampPs (stamp16 m.tEcho m.tEchoFrac)
  let t2 := stampPs (stamp16 m.tRx m.tRxFrac)
  let t3 := stampPs (stamp16 m.tTx m.tTxFrac)
  let t4 := stampPs arrival
  let rt := (t4 - t1) - (t3 - t2)
  { theta := ((t4 - t3) - (t2 - t1) - asym).tdiv 2, mean := rt.tdiv 2, rt := rt, bound := m.bound.toNat }

/-- Whether a RESP of that STATE gives a sample (R234). -/
def sampleState (n : Nat) : Bool := n == 0 || n == 2 || n == 3

/-- A RESP arrives. -/
def timeRespAt (s : State) (p : PortRef) (m : TimeMsg) (arrival : Nat) : State :=
  if (timeRole s).2 != some p || !s.gtc.outstanding.contains m.seq then s
  else
    let g := { s.gtc with outstanding := s.gtc.outstanding.filter fun x => x != m.seq }
    if sampleState m.state then
      let g := { g with samples := g.samples ++ [sampleOf m (asymOf s p) arrival] }
      let g := if g.state == .free || g.state == .lost then { g with state := .acquire, goodWindows := 0, badWindows := 0 } else g
      { s with gtc := g }
    else { s with gtc := g }

/-- A time message arrives at a port; a reserved KIND is ignored. -/
def timeMsgAt (s : State) (p : PortRef) (m : TimeMsg) (arrival : Nat) : State :=
  if m.kind = 1 then timeReqAt s p m arrival
  else if m.kind = 2 then timeRespAt s p m arrival
  else s

/-! ### The servo (R235, R236) -/

/-- The sample with the smallest round trip; the earliest of equals. -/
def bestSample : List Sample → Option Sample
  | [] => none
  | x :: r =>
    match bestSample r with
    | some y => if y.rt < x.rt then some y else some x
    | none => some x

/-- The window in ps. -/
def windowPs (s : State) : Int := 8 * (odGet s 0x6040 0x08 : Int) * 1000000

/-- One run of the servo. -/
def servo (g : Gtc) (theta window : Int) : Gtc :=
  let integ := g.integ + theta.tdiv 64
  let lim := window.tdiv 2000
  let adj := max (-lim) (min lim (theta.tdiv 4 + integ))
  { g with integ := integ, rate := (-adj * 1000000000000).tdiv window }

/-- A window with the valid sample `x`. SERVO_HOLD is looked at here, at the end of a window. DEDUCED (log entry 29); DESIGN CHOICE
(log entry 110). -/
def servoSample (s : State) (x : Sample) : State :=
  let s := odSet (odSet s 0x6040 0x03 (patternOf x.theta 64)) 0x6040 0x04 (patternOf x.mean 64)
  let w := windowPs s
  let stepLimit : Int := odGet s 0x6040 0x0A * 1000
  let lock : Int := odGet s 0x6040 0x09 * 1000
  let far := stepLimit < x.theta.natAbs
  let hold := odGet s 0x6040 0x0D == 1
  let g := { s.gtc with badWindows := 0, parentBound := x.bound }
  match g.state with
  | .acquire =>
    if hold then { s with gtc := { g with state := .holdover, goodWindows := 0, holdNs := 0 } }
    else if far then
      { s with gtc := { gtcMove g ((-x.theta * 2 ^ 32).tdiv 1000) with integ := 0, goodWindows := 0 } }
    else
      let g := servo g x.theta w
      let n := if (x.theta.natAbs : Int) ≤ lock then g.goodWindows + 1 else 0
      { s with gtc := if 4 ≤ n then { g with state := .locked, goodWindows := 0 } else { g with goodWindows := n } }
  | .locked =>
    if far then gtcLost { s with gtc := g }
    else if hold then { s with gtc := { g with state := .holdover, holdNs := 0 } }
    else { s with gtc := servo g x.theta w }
  | .holdover =>
    if far then gtcLost { s with gtc := g }
    else if hold then { s with gtc := g }
    else { s with gtc := servo { g with state := .locked } x.theta w }
  | _ => { s with gtc := g }

/-- A window without one. DEDUCED (log entry 29); DESIGN CHOICE (log entry 110). -/
def servoNone (s : State) : State :=
  let n := s.gtc.badWindows + 1
  let g := { s.gtc with badWindows := n, goodWindows := 0 }
  if (g.state == .locked || g.state == .acquire) && (2 ≤ n || odGet s 0x6040 0x0D == 1) then
    { s with gtc := { g with state := .holdover, holdNs := 0 } }
  else { s with gtc := g }

/-- Whether the eight request intervals of the window have passed (R235); in Dormant only the first of them makes an exchange (log entry 30). -/
def windowOver (s : State) : Bool := 8 ≤ s.gtc.exchanges

/-- SERVO_WINDOW. TIME_PARENT takes effect at the next window (R244). DEDUCED (log entries 30, 31). -/
def doServoWindow (s : State) : State :=
  if windowOver s then
    let best := bestSample s.gtc.samples
    let s := { s with gtc := { s.gtc with samples := [], exchanges := 0 } }
    let s := if (timeRole s).1 then s else
      match best with
      | some x => servoSample s x
      | none => servoNone s
    let p := odGet s 0x6040 0x06
    let g := if p = s.gtc.parent then s.gtc else { s.gtc with parent := p, outstanding := [] }
    timeRootCheck { s with gtc := g }
  else s

/-- HOLDOVER_MAX_EXPIRY: `elapsed` in µs. -/
def doHoldoverMax (elapsed : Nat) (s : State) : State :=
  if s.gtc.state == .holdover && odGet s 0x6040 0x0D == 0 && odGet s 0x6040 0x0B ≤ elapsed then gtcLost s else s

/-! ### The commands -/

/-- The arrival stamp of a message that arrives now (R232, R303). -/
def arrivalAt (s : State) : PortRef → Nat
  | .lattice _ => now16 s
  | .adit a => now16 s - odGet s 0x6042 (0x11 + a) * 65536 / 1000

/-- GTC_TICK (R228). -/
def execGtcTick (s : State) : Host.Outcome State Fault Refusal := .next (doTick s)
/-- TIME_REQ_SEND (R232). -/
def execTimeReqSend (elapsed : Nat) (s : State) : Host.Outcome State Fault Refusal := .next (doTimeReqSend elapsed s)
/-- REQ (R232). -/
def execTimeReq (port : PortRef) (m : TimeMsg) (s : State) : Host.Outcome State Fault Refusal :=
  withPort s port fun s => timeReqAt s port m (arrivalAt s port)
/-- RESP (R234). -/
def execTimeResp (port : PortRef) (m : TimeMsg) (s : State) : Host.Outcome State Fault Refusal :=
  withPort s port fun s => timeRespAt s port m (arrivalAt s port)
/-- SERVO_WINDOW (R235). -/
def execServoWindow (s : State) : Host.Outcome State Fault Refusal := .next (doServoWindow s)
/-- HOLDOVER_MAX_EXPIRY (R237). -/
def execHoldoverMaxExpiry (elapsed : Nat) (s : State) : Host.Outcome State Fault Refusal := .next (doHoldoverMax elapsed s)
/-- LAUNCH_LEAD (R243). -/
def execLaunchLead (s : State) : Host.Outcome State Fault Refusal := .next (doLaunchLead s)
/-- LAUNCH_FIRE (R243). -/
def execLaunchFire (s : State) : Host.Outcome State Fault Refusal := .next (doLaunchFire s)

end Sys2Proof.Machine
end

