-- ==== Sys2Proof/Machine/Link.lean ====
section
/-! DEFINITION. What lattice and adit ports do alike with received flits: pools and epochs (R269, R276, R407), messages
assembled from flits and parts (R260, R261, R265), and their way to querns, the engine and the time unit. -/

namespace Sys2Proof.Machine

/-- A protocol error at a port (R266). -/
def protoError (s : State) (port : PortRef) : State :=
  match port with
  | .lattice p => cnt s (0x7040 + p) 0x10
  | .adit a => cnt s (0x7018 + a) 0x09

/-- A flit dropped for its epoch (R276). -/
def epochDrop (s : State) (port : PortRef) : State := epochDropped s port 1

/-- Partly received messages of a port. -/
def partMsgs (s : State) : PortRef → List (Nat × List Byte)
  | .lattice p => (latAt s p).partMsg
  | .adit a => (aditAt s a).partMsg

/-- Change them. -/
def setPartMsgs (s : State) (port : PortRef) (l : List (Nat × List Byte)) : State :=
  match port with
  | .lattice p => modLat s p fun x => { x with partMsg := l }
  | .adit a => modAdit s a fun x => { x with partMsg := l }

/-- Bodies of which some parts have arrived. -/
def partBodies (s : State) : PortRef → List (Nat × PartHold)
  | .lattice p => (latAt s p).parts
  | .adit a => (aditAt s a).parts

/-- Change them. -/
def setPartBodies (s : State) (port : PortRef) (l : List (Nat × PartHold)) : State :=
  match port with
  | .lattice p => modLat s p fun x => { x with parts := l }
  | .adit a => modAdit s a fun x => { x with parts := l }

/-! ### In-band messages (R385, R393) -/

/-- The bytes of an in-band message. -/
def ibBytes (m : IbMsg) : List Byte :=
  let path := fun (l : List Nat) => (List.range 16).map fun i => BitVec.ofNat 8 (l.getD i 0xFF)
  wordsToBytes [u64 (m.rmode % 256 * 2 ^ 56 + m.hops % 256 * 2 ^ 48 + m.hopLimit % 256 * 2 ^ 40 + m.pathLen % 256 * 2 ^ 32
                  + m.destNode.toNat),
                u64 (m.srcNode.toNat * 2 ^ 32 + b2n m.response)]
    ++ path m.fwdPath ++ path m.retPath ++ m.request

/-- The in-band message of bytes. -/
def ibOf (bs : List Byte) : IbMsg :=
  let w0 := (wordAt bs 0).toNat
  let w1 := (wordAt bs 8).toNat
  let path := fun (o : Nat) => ((bs.drop o).take 16).map fun b => b.toNat
  { rmode := bitsOf w0 63 56, hops := bitsOf w0 55 48, hopLimit := bitsOf w0 47 40, pathLen := bitsOf w0 39 32
    destNode := u32 w0, srcNode := u32 (w1 / 2 ^ 32), response := bitOf w1 0, fwdPath := path 16, retPath := path 32
    request := bs.drop 48 }

/-! ### Messages of VC 0 to 2 -/

/-- Whether a message travels from a child to its parent. -/
def goesUp (s : State) (port : PortRef) (c : MsgCode) (plane : Nat) : Bool :=
  match c with
  | .segment => true | .prepass => true | .statsPass => true | .openNote => true | .barrierArrive => true
  | .stepArrive => true | .pause => true | .resume => true
  | .abort => parentPort s plane != some port
  | _ => false

/-- The quern and input that an upward message enters: that of its span, else the first that the port feeds (R262). -/
def inputFor (s : State) (port : PortRef) (plane : Nat) (x : Span) : Option (Nat × Nat) :=
  let l := inputsFedBy s port plane
  match l.find? fun c => c.2.span == x with
  | some c => some (c.1, c.2.input)
  | none => l.head?.map fun c => (c.1, c.2.input)

/-- The message of a command that brings one to quern `q`. -/
def upwardOf (q : Nat) : Instr → Option Message
  | .segment q' _ m _ => if q' = q then some m else none
  | .prepass q' _ m => if q' = q then some m else none
  | _ => none

/-- The agreement set that an arriving message is read under: that of the quern, or of a message of its bucket that waits. -/
def readAgree (s : State) (q : Nat) (m : Message) : Option Agreement :=
  match knownAgree s q m with
  | some a => some a
  | none =>
    let waits := (quernAt s q).waiting.map (·.2) ++ s.onDie.filterMap (upwardOf q)
    (waits.find? fun x => x.agree.isSome && m.keyIs x.bucket x.step x.plane).bind (·.agree)

/-- The body of a received message; SUMP_SEQ of a failure is not carried (log entry 14). `packed` is the lane width of a packed
body, 0 for none; none on a protocol error (R300). -/
def readBody (d : Desc) (c : MsgCode) (r : RawMsg) (packed : Nat) (free : Nat) : Option Body :=
  if c == .segment || c == .result then
    if packed != 0 then
      (unpackLanes packed (r.body.length + 1) r.hdr.elems r.body).map fun vs =>
        let sums := match laneFmt d (c == .segment) with | .sinter _ => true | _ => false
        .lanes (vs.zipIdx.map fun (v, i) =>
          { val := if sums then v else (patternOf v (8 * packed) : Int), side := rawSide r i }) []
    else
      let (ls, sc) := lanesOf (laneFmt d (c == .segment)) r.hdr.elems r.body (rawSide r)
      some (.lanes ls sc)
  else if r.body.isEmpty then some .none
  else some (bodyOf c r.body (u32 free))

/-- What OVF of a received message says: the overflow of R85, the retry condition of R86, or else OUTPUT_RANGE (R56, R91).
DESIGN CHOICE (log entries 69, 121). -/
def readOvf (d : Desc) (m : Message) : Message :=
  let up := m.code == .segment && (d.exact || (d.disc == 5 && m.attempt == 0))
  if carriesRange m && !up then { m with ovf := false, outRange := m.ovf } else m

/-- A whole message goes to the quern it is for. The mark of R223, which no link carries, is a free value. DESIGN CHOICE (log entry 69). -/
def routeMessage (s : State) (port : PortRef) (c : MsgCode) (plane : Nat) (r : RawMsg) (packed : Nat) : State :=
  if c == .spanReport then
    post s (.spanReport port (messageOf c plane r (bodyOf c r.body 0)))
  else
    let up := goesUp s port c plane
    let m0 := messageOf c plane r .none
    let dest : Option (Nat × Nat) :=
      if up then inputFor s port plane m0.span
      else if parentPort s plane == some port then (outQuernOf s port plane).map fun q => (q, 0)
      else none
    match dest with
    | none => protoError s port
    | some (q, input) =>
      let d := match readAgree s q m0 with
        | some a => a.desc m0.bucket m0.step
        | none => ⟨0, 0, 0, 0, 0, 0, 0, 0⟩
      match readBody d c r packed (freeVal s) with
      | none => protoError s port
      | some b =>
        let m := readOvf d { m0 with body := b, paused := bitOf (freeVal s) 32 }
        let s := useFree s
        if up then post s (arriveUp q input m) else post s (arriveDown (.quern q) m)

/-- A part of a body (R265); the whole is routed with its last part. DESIGN CHOICE (log entry 123). -/
def takePart (s : State) (port : PortRef) (key : Nat) (c : MsgCode) (plane : Nat) (r : RawMsg) : State :=
  let l := partBodies s port
  let rest := l.filter fun x => x.1 != key
  let held : Option PartHold := if r.hdr.seg = 0 then some ⟨0, r.agree, r.chunk, []⟩ else assocGet key l
  match held with
  | none => protoError s port
  | some h =>
    if h.next != r.hdr.seg then protoError (setPartBodies s port rest) port
    else
      let h := { h with next := h.next + 1, body := h.body ++ r.body }
      if r.hdr.lastSeg then
        routeMessage (setPartBodies s port rest) port c plane { r with agree := h.agree, chunk := h.chunk, body := h.body } 0
      else setPartBodies s port (assocPut key h l)

/-- The code of a packed message, and its lane width (R298). -/
def unpackedNo (n : Nat) : Nat × Nat :=
  match n with
  | 0x81 => (0x01, 8) | 0x82 => (0x01, 16) | 0x91 => (0x11, 8) | 0x92 => (0x11, 16)
  | n => (n, 0)

/-- The code of a received message, and its lane width where it is packed: on an adit with packing only (R298). -/
def portCode (s : State) (port : PortRef) (n : Nat) : Nat × Nat :=
  match port with
  | .adit a => if (aditAt s a).packRx then unpackedNo n else (n, 0)
  | .lattice _ => (n, 0)

/-- The bytes of a message on VC 0 to 2 (R261, R266). -/
def takeMessage (s : State) (port : PortRef) (vc plane : Nat) (bs : List Byte) : State :=
  let r := rawOf bs
  let (no, packed) := portCode s port r.hdr.msg
  match msgOfNo no with
  | none => protoError s port
  | some c =>
    if msgVc c != vc || bs.length < 32 || r.body.length != r.hdr.bytes then protoError s port
    else if inParts c then takePart s port (vc * 8 + plane) c plane r
    else routeMessage s port c plane r packed

/-! ### Flits -/

/-- A flit leaves its pool: its payload joins its message (R260); VC 4 goes to the time unit with the arrival stamp. -/
def takeFlit (s : State) (port : PortRef) (f : Flit) (arrival : Nat) : State :=
  if f.vc = 4 then timeMsgAt s port (timeOf f.payload) arrival
  else
    let key := f.vc * 8 + f.plane
    let l := partMsgs s port
    let rest := l.filter fun x => x.1 != key
    let have_ : Option (List Byte) := if f.first then some [] else assocGet key l
    match have_ with
    | none => protoError s port
    | some bs =>
      let bs := bs ++ f.payload
      if !f.last then setPartMsgs s port (assocPut key bs rest)
      else
        let s := setPartMsgs s port rest
        if f.vc = 3 then (if bs.length < 64 then protoError s port else post s (.ibMessage port (ibOf bs)))
        else takeMessage s port f.vc f.plane bs

/-- Whether the engine has prepared the epoch for the plane and not yet applied it (R276, R400). -/
def preparedFor (s : State) (plane epoch : Nat) : Bool :=
  (odGet s 0x2200 0x03 == 2 || odGet s 0x2200 0x03 == 4) && s.setup.preparedPlanes.getLsbD plane && odGet s 0x2200 0x01 == epoch

/-- What the epoch rule says of a VC 0 to 2 flit (R255, R276). -/
inductive EpochRule where
  | drop | take | hold
  deriving DecidableEq, Repr

/-- The epoch rule. -/
def epochRule (s : State) (port : PortRef) (f : Flit) : EpochRule :=
  if planeClosed s port f.plane then .drop
  else if portHasPlane s port f.plane && f.epoch == epochOf s f.plane then .take
  else if preparedFor s f.plane f.epoch then .hold
  else .drop

/-- The quern input that an upward message enters which begins with these bytes, and whether it is a SEGMENT. -/
def enters (s : State) (port : PortRef) (plane : Nat) (bs : List Byte) : Option ((Nat × Nat) × Bool) :=
  let r := rawOf bs
  match msgOfNo (portCode s port r.hdr.msg).1 with
  | some c =>
    if goesUp s port c plane then (inputFor s port plane (messageOf c plane r .none).span).map fun x => (x, c == .segment) else none
  | none => none

/-- Segments on their way from ports to a quern input: partly received, or between the port and the quern. -/
def segmentsComing (s : State) (port : PortRef) (x : Nat × Nat) : Nat :=
  ((partMsgs s port).filter fun p => p.1 < 8 && enters s port p.1 p.2 == some (x, true)).length
    + (s.onDie.filter fun c => match c with | .segment q i _ _ => (q, i) == x | _ => false).length

/-- Whether the destination of a VC 0 to 2 flit takes it now: a position whose spare is switching in takes nothing from below (R355), and
a SEGMENT begins to enter an input only where one of its two segment buffers is empty (R7, R16, R269). DESIGN CHOICE (log entry 27). -/
def flitFits (s : State) (port : PortRef) (f : Flit) : Bool :=
  let head := if f.first then some f.payload else assocGet (f.vc * 8 + f.plane) (partMsgs s port)
  match head.bind (enters s port f.plane) with
  | none => true
  | some (x, seg) =>
    (quernAt s x.1).switching.isNone && (!f.first || !seg || buffersUsed s x.1 x.2 + segmentsComing s port x < 2)

/-- A sequenced flit or a plane-stream frame for a plane wakes the instance and starts the plane's fabric domain (R408, R414). -/
def trafficFor (s : State) (plane : Nat) : State :=
  if plane < s.params.planes then startPlane (wakeTrigger s) plane else wakeTrigger s

/-- Whether the flit begins a STEP_ARRIVE. -/
def isStepArrive (f : Flit) : Bool := f.vc == 2 && f.first && f.payload.getD 7 0 == 0x25

/-- Whether the fabric domain of a plane takes flits now (R407, R414). -/
def planeReady (s : State) (plane : Nat) : Bool :=
  !fabricAsleep s && !s.resetting && s.power.planes.getLsbD plane

end Sys2Proof.Machine
end

