-- ==== Sys2Proof/Machine/Lattice.lean ====
section
/-! DEFINITION. Lattice ports: lanes and training (R247 to R251), port states (R252 to R256), credits (R268 to R271), sequence numbers
and retry (R272 to R274). -/

namespace Sys2Proof.Machine

/-- STATE of a lattice port (R252). -/
def LatState.no : LatState → Nat
  | .disabled => 0 | .absent => 1 | .training => 2 | .active => 3 | .recovering => 4 | .down => 5
  | .misconnected => 6 | .quiet => 7 | .test => 8

/-- A subindex of a port's object range. -/
def latOd (s : State) (p sub : Nat) : Nat := odGet s (0x4000 + p) sub
/-- A counter of a port. -/
def latCnt (s : State) (p sub : Nat) : State := cnt s (0x7040 + p) sub
/-- The port in another state. -/
def latState (s : State) (p : Nat) (st : LatState) : State := modLat s p fun x => { x with state := st }

/-! ### Sequence numbers and pools -/

/-- Whether SEQ `a` lies behind `b`, within 2^23 (R272). -/
def seqBehind (a b : Nat) : Bool :=
  let d := (b + 2 ^ 24 - a % 2 ^ 24) % 2 ^ 24
  0 < d && d ≤ 2 ^ 23

/-- The pool of a flit: one for each plane on VC 0 and VC 1, one for each other channel (R268). -/
def poolOf (vc plane : Nat) : Nat := if vc < 2 then vc * 8 + plane else vc * 8

/-- The flits of the pools of VC 2 to 4: RXBUF_VC2, RXBUF_VC3, RXBUF_VC4. -/
def rxbuf (s : State) (p vc : Nat) : Nat := latOd s p (if vc = 2 then 0x0D else if vc = 3 then 0x0E else 0x0F)

/-- The size of a pool (R268). PRESUMED (log entry 19). -/
def poolSize (s : State) (p vc plane : Nat) : Nat :=
  if 2 ≤ vc then rxbuf s p vc
  else
    let ks := portPlanes s (.lattice p)
    let rest := 2048 - (rxbuf s p 2 + rxbuf s p 3 + rxbuf s p 4)
    if ks.contains plane then
      rest / (2 * ks.length) + (if vc = 0 && ks.head? == some plane then rest % (2 * ks.length) else 0)
    else 0

/-- Whether the transmitter holds a credit for a flit: the peer's pools have the sizes of its own (log entry 19). -/
def hasCredit (s : State) (p : Nat) (f : Flit) : Bool :=
  RegFile.get 0 (poolOf f.vc f.plane) (latAt s p).used < poolSize s p f.vc f.plane

/-- Flits sent on VC 0 and VC 1 of a plane whose credits have not returned (R271). -/
def planeUsed (x : LatPort) (plane : Nat) : Nat :=
  RegFile.get 0 (poolOf 0 plane) x.used + RegFile.get 0 (poolOf 1 plane) x.used

/-- Sequence, credit and reassembly state restarted (R270, R274). -/
def latRestart (x : LatPort) : LatPort :=
  { x with nextSeq := 0, expSeq := 0, rxWaiting := false, retry := [], unsent := 0, noProgress := 0, replayAt := none
           recoverGoal := none, used := [], freed := [], lastFreed := [], partMsg := [], parts := [], heldFlits := []
           lcfDue := false, lcfNak := false, lcfDirty := false, stepGoals := [], credits := [], heard := true, txIdle := false }

/-! ### Training -/

/-- Lanes ready to be read anew; signals stay. -/
def clearSeen (ls : List LaneSeen) : List LaneSeen := ls.map fun l => { signal := l.signal }

/-- The training block that the port sends on a lane (R248). -/
def sendBlock (s : State) (p : Nat) (good : Nat) (width : Nat) (i : Nat) : State :=
  let x := latAt s p
  emit s (.trainingBlock p i (trainBytes
    { lane := i, rxReady := (x.lanes.getD i {}).seen, phase := x.phase, width := if 2 ≤ x.phase then width else 0
      node := nodeId s, port := p, rxGood := good, fresh := x.fresh }))

/-- One on each lane. -/
def sendBlocks (s : State) (p : Nat) (good : Nat) (width : Nat) : State :=
  forAll (List.range 8) s fun s i => sendBlock s p good width i

/-- A full training with restarted state (R247, R270). -/
def trainFresh (s : State) (p : Nat) : State :=
  let s := modLat s p fun x =>
    { latRestart x with state := .training, fresh := true, train := 2, phase := 0, lanes := clearSeen x.lanes }
  sendBlocks (latCnt s p 0x14) p 0 0

/-- The port is RECOVERING from now on, if it was not (R274). -/
def recover (s : State) (p : Nat) : State :=
  modLat s p fun x => match x.state with
    | .active => { x with state := .recovering, recoverGoal := some x.nextSeq, recoverLimit := odGet s 0x6020 0x04 }
    | .quiet => { x with state := .recovering, recoverGoal := some x.nextSeq, recoverLimit := odGet s 0x6020 0x04 }
    | _ => x

/-- A training that keeps the sequence state: `kind` 1 a fast retrain, 2 a full training (R247, R274, R424). DEDUCED (log entry 23). -/
def retrainKept (s : State) (p kind : Nat) : State :=
  let s := modLat (recover s p) p fun x =>
    { x with fresh := false, train := kind, phase := if kind = 1 then 1 else 0, noProgress := 0, lanes := clearSeen x.lanes
             heard := true, txIdle := false }
  sendBlocks (latCnt s p (if kind = 1 then 0x13 else 0x14)) p 0 0

/-- The width of `n` good lanes (R250). -/
def widthOf (n : Nat) : Nat := if 8 ≤ n then 8 else if 4 ≤ n then 4 else if 2 ≤ n then 2 else 0

/-- The value that occurs most often; the first of equals. -/
def mostOf {α : Type} [BEq α] (l : List α) : Option α :=
  l.foldl (fun best x => match best with
    | none => some x
    | some b => if l.count b < l.count x then some x else best) none

/-- What training finds (R249, R250). -/
structure TrainFind where
  fault : List Nat
  node : U32
  port : Nat
  reversed : Bool
  good : List Nat
  rxWidth : Nat
  txLanes : List Nat
  txWidth : Nat
  deriving DecidableEq, Repr

/-- The finding on one lane, in the order of the table of R249. DEDUCED (log entry 33). -/
def laneFault (ls : List LaneSeen) (excl : Nat) (ident : U32 × Nat) (rev : Bool) (i : Nat) : Nat :=
  let l := ls.getD i {}
  let twins := (ls.filter fun o => o.signal && o.seen && o.lane == l.lane).length
  if !l.signal then 1
  else if !l.seen || 2 ≤ twins then 2
  else if (l.node, l.port) != ident then 3
  else if l.lane != (if rev then 7 - i else i) then 4
  else if bitOf excl i then 5
  else 0

/-- What the port finds from the blocks received. A reversed order is taken to hold in both directions (log entry 20). -/
def trainFind (s : State) (p : Nat) : TrainFind :=
  let ls := (latAt s p).lanes
  let excl := latOd s p 0x0A
  let seen := ls.filter fun l => l.signal && l.seen
  let ident := (mostOf (seen.map fun l => (l.node, l.port))).getD (0xFFFFFFFF, 0xFFFF)
  let straight := (ls.zipIdx.filter fun (l, i) => l.signal && l.seen && l.lane == i).length
  let crossed := (ls.zipIdx.filter fun (l, i) => l.signal && l.seen && l.lane == 7 - i).length
  let rev := straight < crossed
  let fault := (List.range 8).map (laneFault ls excl ident rev)
  let good := (List.range 8).filter fun i => fault.getD i 0 == 0
  let peer := (mostOf ((seen.filter fun l => 2 ≤ l.phase).map fun l => (l.width, l.rxGood))).getD (0, 0)
  let tx := (List.range 8).filter fun i => bitOf peer.2 (if rev then 7 - i else i) && !bitOf excl (8 + i)
  let rxw := widthOf good.length
  { fault := fault, node := ident.1, port := ident.2, reversed := rev, good := good
    rxWidth := if peer.1 = 0 then rxw else min rxw peer.1, txLanes := tx, txWidth := widthOf tx.length }

/-- A list of lanes as bits. -/
def laneBits (l : List Nat) : Nat := l.foldl (fun n i => n ||| 2 ^ i) 0

/-- LANE_FAULT of the findings. -/
def faultWord (l : List Nat) : Nat := (l.zipIdx.map fun (v, i) => v * 16 ^ i).sum

/-- E_LINK_DOWN (R274, R370). -/
def linkDownRecord (s : State) (p cause : Nat) : State :=
  sump s 0x000F 0 3 p 0xFF 0xFFFFFF cause (u64 (latOd s p 0x05 * 2 ^ 32 + latOd s p 0x06))

/-- The port enters DOWN: the record first, then what waits on the link (R255, R274, R360). DEDUCED (log entry 36). -/
def latDown (s : State) (p cause : Nat) : State :=
  let s := linkDownRecord (odSet s (0x4000 + p) 0x13 cause) p cause
  let dropped := ((latAt s p).txq.filter fun f => f.vc < 3).length
  let closed := (List.range s.params.planes).foldl (fun r k => RegFile.put k (epochOf s k) r) []
  let s := modLat s p fun x =>
    { latRestart x with state := .down, train := 0, closedAt := closed, txq := x.txq.filter fun f => 3 ≤ f.vc }
  linkDown (cntAdd s (0x7040 + p) 0x0F dropped) (.lattice p) 0x000F

/-- Whether an identity is the one expected (R251). DEDUCED (log entry 32). -/
def identityOk (s : State) (p : Nat) (node port : Nat) : Bool :=
  latOd s p 0x03 == 0xFFFFFFFF || (node == latOd s p 0x03 && (latOd s p 0x04 == 0xFFFF || port == latOd s p 0x04))

/-- EV_MISCONNECTED with the identities (R251, R288). -/
def misconnectedRecord (s : State) (kind obj eNode ePort node port : Nat) : State :=
  let r := sumpRec 0x0102 2 kind obj 0xFF 0xFFFFFF 0 (u64 (eNode * 2 ^ 32 + ePort))
  let c := sumpRec 0x0102 3 kind obj 0xFF 0xFFFFFF 0 (u64 (node * 2 ^ 32 + port))
  sumpWrite2 s r (some c)

/-- What phase 1 has read of the receive lanes, in LANE_FAULT and in the order and polarity of LANE_MAP (R249, R278). -/
def lanesRead (s : State) (p : Nat) (f : TrainFind) : State :=
  let o := 0x4000 + p
  let ls := (latAt s p).lanes
  let pol := laneBits ((List.range 8).filter fun i => (ls.getD i {}).inverted)
  odSet (odSet s o 0x08 (bitsOf (latOd s p 0x08) 15 0 + b2n f.reversed * 2 ^ 16 + pol * 2 ^ 24)) o 0x09 (faultWord f.fault)

/-- Phase 1 is done: the identity is read and checked (R247, R251). In a training from ACTIVE or RECOVERING another identity
gives up the link with DOWN_CAUSE 4 (log entry 21). A training from MISCONNECTED restarts the sequence state (R248, R270). -/
def identify (s : State) (p : Nat) : State :=
  let f := trainFind s p
  let was := (latOd s p 0x05, latOd s p 0x06)
  let s := lanesRead (odSet (odSet s (0x4000 + p) 0x05 f.node.toNat) (0x4000 + p) 0x06 f.port) p f
  let x := latAt s p
  if !x.fresh && was != (f.node.toNat, f.port) then latDown s p 4
  else if identityOk s p f.node.toNat f.port then
    if x.state == .misconnected then modLat s p fun x => { latRestart x with state := .training, fresh := true } else s
  else if x.state == .misconnected then s
  else
    misconnectedRecord (latState s p .misconnected) 3 p (latOd s p 0x03) (latOd s p 0x04) f.node.toNat f.port

/-- Whether a lane shows that its far side has done the phase. -/
def laneDone (phase : Nat) (l : LaneSeen) : Bool :=
  l.signal && l.seen &&
    (phase < l.phase || (phase = 0 && l.rxReady) || (phase = 1 && l.phase = 1) || (phase = 2 && l.phase = 2 && l.width != 0))

/-- The phase advances when most lanes with signal show it done (R247, log entry 22); on entering phase 3 each lane sends its 16 blocks. -/
def advancePhase (s : State) (p : Nat) : State :=
  let x := latAt s p
  let have_ := (x.lanes.filter fun l => l.signal).length
  let done := (x.lanes.filter (laneDone x.phase)).length
  if 3 ≤ x.phase || 2 * done ≤ have_ then s
  else
    let s := modLat s p fun x => { x with phase := x.phase + 1 }
    let s := if x.phase = 1 then identify s p else s
    let f := trainFind s p
    match (latAt s p).state with
    | .down => s
    | _ => forAll (List.range (if x.phase = 2 then 16 else 1)) s fun s _ => sendBlocks s p (laneBits f.good) f.txWidth

/-- What the port's blocks say of what it has received: RX_READY by lane, RX_GOOD and WIDTH. -/
def blockSays (s : State) (p : Nat) : List Bool × Nat × Nat :=
  let f := trainFind s p
  ((latAt s p).lanes.map (·.seen), laneBits f.good, f.txWidth)

/-- Blocks follow one another on every lane before phase 3: one that says something new goes out when what it says has changed (R247,
R248, log entry 22). -/
def showChange (s : State) (p lane phase : Nat) (said : List Bool × Nat × Nat) : State :=
  let now := blockSays s p
  if (latAt s p).phase != phase || 3 ≤ phase || now == said then s
  else if phase = 0 then sendBlock s p 0 0 lane
  else sendBlocks s p now.2.1 now.2.2

/-- A block received on a lane in a training. DESIGN CHOICE (log entry 22). -/
def takeBlock (s : State) (p lane : Nat) (mirrored : Bool) (b : TrainBlock) : State :=
  let said := blockSays s p
  let phase := (latAt s p).phase
  let s := modLat s p fun x => { x with lanes := x.lanes.modify lane fun _ =>
    { signal := true, seen := true, lane := b.lane, node := u32 b.node, port := b.port, inverted := mirrored, phase := b.phase
      rxReady := b.rxReady, width := b.width, rxGood := b.rxGood } }
  if (latAt s p).state == .misconnected then identify s p else showChange (advancePhase s p) p lane phase said

/-- TRAINING_BLOCK: `bytes` as the receiver reads them once it has corrected the polarity. -/
def doTrainingBlock (p lane : Nat) (mirrored : Bool) (bytes : List Byte) (s : State) : State :=
  match trainOf bytes with
  | none => s
  | some b =>
    match (latAt s p).state with
    | .disabled => s
    | .test => s
    | .absent => takeBlock (trainFresh s p) p lane mirrored b
    | .down => takeBlock (trainFresh s p) p lane mirrored b
    | .training => takeBlock s p lane mirrored b
    | .misconnected => takeBlock s p lane mirrored b
    | .recovering =>
      if b.fresh then latDown s p 6
      else takeBlock (if (latAt s p).train = 0 then retrainKept s p 1 else s) p lane mirrored b
    | _ => if b.fresh then latDown (recover s p) p 6 else takeBlock (retrainKept s p 1) p lane mirrored b

/-- Whether a recovering port has done what R274 asks. -/
def recovered (x : LatPort) : Bool :=
  !x.rxWaiting && x.train == 0 &&
    (match x.recoverGoal, x.retry with
     | none, _ => true
     | some _, [] => true
     | some g, f :: _ => !seqBehind f.seq g)

/-- RECOVERING ends. -/
def checkRecovered (s : State) (p : Nat) : State :=
  modLat s p fun x =>
    if x.state == .recovering && recovered x then { x with state := .active, recoverGoal := none } else x

/-- A replay of every retained flit (R273). -/
def startReplay (s : State) (p : Nat) : State :=
  match (latAt s p).retry with
  | [] => s
  | f :: _ =>
    modLat (latCnt (recover s p) p 0x0D) p fun x =>
      { x with unsent := x.retry.length, replayAt := some f.seq, noProgress := x.noProgress + 1 }

/-- A replay, or a fast retrain after MAX_REPLAY of them without progress (R274). -/
def replayOrRetrain (s : State) (p : Nat) : State :=
  if latOd s p 0x11 ≤ (latAt s p).noProgress then retrainKept s p 1 else startReplay s p

/-- What a completed training leaves in the port's objects (R250, R278). -/
def trainObjects (s : State) (p : Nat) (f : TrainFind) : State :=
  let o := 0x4000 + p
  let s := odSet s o 0x07 (f.txWidth + f.rxWidth * 256)
  lanesRead (odSet s o 0x08 (laneBits (f.txLanes.take f.txWidth) + laneBits (f.good.take f.rxWidth) * 2 ^ 8)) p f

/-- TRAINING_COMPLETE (R247, R250, R274). -/
def doTrainingComplete (p : Nat) (s : State) : State :=
  let x := latAt s p
  let trains := x.state == .training || (x.state == .recovering && x.train != 0)
  if !trains || x.phase < 3 then s
  else
    let f := trainFind s p
    let s := trainObjects s p f
    if min f.rxWidth f.txWidth < latOd s p 0x0B then latDown s p 2
    else
      let s := if f.rxWidth < 8 || f.txWidth < 8 then
          sump (latCnt s p 0x12) 0x0101 2 3 p 0xFF 0xFFFFFF (f.txWidth * 256 + f.rxWidth) (u64 (faultWord f.fault))
        else s
      if x.state == .training then modLat s p fun x => { x with state := .active, train := 0, lcfDue := true }
      else
        let s := modLat s p fun x => { x with train := 0, lcfDue := true, replayAt := none }
        checkRecovered (startReplay s p) p

/-! ### Lanes -/

/-- LANE_SIGNAL_DETECT (R253). -/
def doSignalDetect (p lane : Nat) (s : State) : State :=
  let mark := fun (s : State) => modLat s p fun x => { x with lanes := x.lanes.modify lane fun l => { l with signal := true } }
  match (latAt s p).state with
  | .disabled => s
  | .test => s
  | .absent => trainFresh (mark s) p
  | .down => trainFresh (mark s) p
  | _ => mark s

/-- LANE_SIGNAL_LOSS: signal or lock is lost on lanes (R249, R254, R274). A fast retrain that loses a lane in use has failed and falls
back to a full training (R247); a full training within a recovery that loses every lane has failed (DOWN_CAUSE 5, log entry 23). DEDUCED (log entry 34). -/
def doSignalLoss (p : Nat) (lost : BitVec 8) (s : State) : State :=
  let s := modLat s p fun x => { x with lanes := x.lanes.zipIdx.map fun (l, i) => if lost.getLsbD i then {} else l }
  let x := latAt s p
  let none_ := x.lanes.all fun l => !l.signal
  let hit := (bitsOf (latOd s p 0x08) 15 8) &&& lost.toNat != 0
  match x.state with
  | .active =>
    if none_ && (portPlanes s (.lattice p)).isEmpty then latState s p .absent
    else if none_ || hit then retrainKept s p 1 else s
  | .recovering =>
    if !none_ then (if hit && x.train < 2 then retrainKept s p (x.train + 1) else s)
    else if x.train = 0 then retrainKept s p 1
    else if x.train = 1 then retrainKept s p 2
    else latDown s p 5
  | .training => if none_ then latState s p (if x.closedAt.isEmpty then .absent else .down) else s
  | .misconnected => if none_ then latState s p .absent else s
  | _ => s

/-- ABSENT_BURST: 100 ms have passed; `elapsed` in ms. -/
def doAbsentBurst (p elapsed : Nat) (s : State) : State :=
  if elapsed < 100 then s
  else match (latAt s p).state with
    | .absent => latCnt (emit s (.trainingBurst p 2)) p 0x15
    | .down => emit s (.trainingBurst p 2)
    | _ => s

/-! ### Link control flits (R270, R271) -/

/-- The LCF payload of now. -/
def lcfNow (x : LatPort) : LcfInfo :=
  let n := fun (vc plane : Nat) => RegFile.get 0 (poolOf vc plane) x.freed
  { ack := x.expSeq, nak := x.lcfNak, freedVc0 := (List.range 8).map (n 0), freedVc1 := (List.range 8).map (n 1)
    freedVc2 := n 2 0, freedVc3 := n 3 0, freedVc4 := n 4 0 }

/-- An LCF is to be sent at once. -/
def lcfSoon (s : State) (p : Nat) (nak : Bool) : State :=
  modLat s p fun x => { x with lcfDue := true, lcfNak := x.lcfNak || nak }

/-- A NAK for the expected SEQ, unless the receiver already waits (R272). -/
def nakAndWait (s : State) (p : Nat) : State :=
  if (latAt s p).rxWaiting then s
  else lcfSoon (latCnt (modLat (recover s p) p fun x => { x with rxWaiting := true }) p 0x0B) p true

/-- FREED values of an LCF by pool. -/
def freedList (i : LcfInfo) : List (Nat × Nat) :=
  (List.range 8).map (fun k => (poolOf 0 k, i.freedVc0.getD k 0)) ++ (List.range 8).map (fun k => (poolOf 1 k, i.freedVc1.getD k 0))
    ++ [(poolOf 2 0, i.freedVc2), (poolOf 3 0, i.freedVc3), (poolOf 4 0, i.freedVc4)]

/-- A pool's freed credits return (R270). -/
def takeFreed (x : LatPort) (c : Nat × Nat) : LatPort :=
  let d := (c.2 + 65536 - RegFile.get 0 c.1 x.lastFreed % 65536) % 65536
  { x with used := RegFile.set 0 c.1 (RegFile.get 0 c.1 x.used - d) x.used, lastFreed := RegFile.set 0 c.1 (c.2 % 65536) x.lastFreed }

/-- CREDITS of the planes whose STEP_ARRIVE the ACK covers (R271). DEDUCED (log entry 85). -/
def sampleCredits (s : State) (p ack : Nat) : State :=
  let x := latAt s p
  let hit := x.stepGoals.filter fun g => seqBehind g.2 ack
  modLat s p fun x => { x with
    stepGoals := x.stepGoals.filter fun g => !seqBehind g.2 ack
    credits := hit.foldl (fun r g => RegFile.set 0 g.1 (planeUsed x g.1) r) x.credits }

/-- Whether the port exchanges flits. -/
def flitsFlow (x : LatPort) : Bool :=
  match x.state with
  | .active => true | .quiet => true
  | .recovering => x.train == 0
  | _ => false

/-- LCF: its ACK, credits and NAK (R270, R273). -/
def takeLcf (p : Nat) (i : LcfInfo) (s : State) : State :=
  if !flitsFlow (latAt s p) then s
  else
    let x := latAt s p
    let kept := x.retry.dropWhile fun f => seqBehind f.seq i.ack
    let progress := kept.length < x.retry.length
    let s := modLat s p fun x => (freedList i).foldl takeFreed
      { x with retry := kept, unsent := min x.unsent kept.length
               noProgress := if progress then 0 else x.noProgress, replayAt := if progress then none else x.replayAt }
    let s := sampleCredits s p i.ack
    let s := if i.nak then
        let s := recover (latCnt s p 0x0C) p
        if (latAt s p).replayAt == some i.ack then s else replayOrRetrain s p
      else s
    drainKick (checkRecovered s p)

/-! ### Sending (R269, R272, R273) -/

/-- A flit on the lanes; an injection of kind 5 corrupts its CRC (R405). -/
def emitFlit (s : State) (p : Nat) (h : FlitHdr) (payload : List Byte) : State :=
  let (kind, s) := injectAt s 3 p [5]
  let bs := flitBytes h payload
  emit s (.flit p (if kind = 5 then bs.modify 255 (fun b => b ^^^ 1) else bs))

/-- An IDLE flit. -/
def emitIdle (s : State) (p : Nat) : State :=
  emitFlit s p { seq := 0, epoch := 0, vc := 6, plane := 0, first := false, last := false, len := 0 } []

/-- An LCF. -/
def emitLcf (s : State) (p : Nat) : State :=
  let x := latAt s p
  let s := modLat s p fun x => { x with lcfDue := false, lcfDirty := false }
  emitFlit s p { seq := 0, epoch := 0, vc := 7, plane := 0, first := false, last := false, len := 240 } (lcfBytes (lcfNow x))

/-- A sequenced flit; a time message is stamped at every transmission (R232). -/
def emitSeq (s : State) (p : Nat) (f : Flit) : State :=
  let payload := match f.time with
    | some m => timeBytes { m with tTx := now16 s / 65536, tTxFrac := now16 s % 65536 }
    | none => f.payload
  emitFlit s p { seq := f.seq, epoch := f.epoch, vc := f.vc, plane := if f.vc < 3 then f.plane else 0
                 first := f.first, last := f.last, len := payload.length } payload

/-- What a write of a new flit to the retry buffer suffers from an injection (R405, R354). DEDUCED (log entry 39). -/
def injectRetry (s : State) (p : Nat) (f : Flit) : State × Flit :=
  match injectAt s 3 p [1, 2, 3] with
  | (0, s) => (s, f)
  | (3, s) => (s, { f with lost := true })
  | (_, s) => (cnt s 0x7000 0x0E, f)

/-- A flit as it goes out: VC 3 and VC 4 carry the tree epoch of plane 0, their PLANE (R259). -/
def stampEpoch (s : State) (f : Flit) : Flit := if f.vc < 3 then f else { f with epoch := epochOf s 0 }

/-- A new flit, with its SEQ, its credit and its place in the retry buffer. -/
def sendNew (s : State) (p : Nat) (i : Nat) (f : Flit) : State :=
  let s := if isStepArrive f then emitLcf s p else s
  let f := { stampEpoch s f with seq := (latAt s p).nextSeq }
  let (s, f) := injectRetry s p f
  let pool := poolOf f.vc f.plane
  let s := modLat s p fun x =>
    { x with txq := x.txq.eraseIdx i, nextSeq := (x.nextSeq + 1) % 2 ^ 24, retry := x.retry ++ [f]
             used := RegFile.set 0 pool (RegFile.get 0 pool x.used + 1) x.used
             stepGoals := if isStepArrive f then (x.stepGoals.filter fun g => g.1 != f.plane) ++ [(f.plane, f.seq)] else x.stepGoals }
  emitSeq s p f

/-- A retained flit sent again; one whose codeword is lost is not (R354). -/
def sendAgain (s : State) (p : Nat) : State :=
  let x := latAt s p
  let s := modLat s p fun x => { x with unsent := x.unsent - 1 }
  match x.retry[x.retry.length - x.unsent]? with
  | none => emitIdle s p
  | some f =>
    if f.lost then emitIdle (sump (useFree s) 0x000E 0 3 p 0xFF 0xFFFFFF 5 (u64 (freeVal s))) p
    else emitSeq (if isStepArrive f then emitLcf s p else s) p f

/-- Whether the port has nothing but IDLE flits to send (R415). -/
def idleOnly (x : LatPort) : Bool := !x.lcfDue && x.unsent == 0 && x.txq.isEmpty

/-- FLIT_TX: one flit slot. LCFs first, then the replay, then the first waiting flit that has a credit, else IDLE (log entry 24); nothing
in electrical idle, which a flit to send ends (R415). -/
def doFlitTx (p : Nat) (s : State) : State :=
  let x := latAt s p
  let wakes := x.state == .quiet && x.txq.any fun f => 3 ≤ f.vc
  let s := if wakes then latState s p .active else s
  if !flitsFlow x || (x.state == .quiet && !wakes) || (x.txIdle && idleOnly x) then s
  else flitSlot p x (modLat s p fun x => { x with txIdle := false })
where
  /-- What goes into the slot. -/
  flitSlot (p : Nat) (x : LatPort) (s : State) : State :=
  if x.lcfDue then emitLcf s p
  else if 0 < x.unsent then sendAgain s p
  else if x.txq.isEmpty then emitIdle s p
  else if 2048 ≤ x.retry.length then emitIdle (latCnt s p 0x11) p
  else
    match x.txq.zipIdx.find? fun f => hasCredit s p f.1 with
    | some (f, i) => sendNew s p i f
    | none => emitIdle s p

/-! ### Receiving (R272) -/

/-- A slot of the receive pool is emptied (R269). -/
def emptySlot (s : State) (p : Nat) (f : Flit) : State :=
  let pool := poolOf f.vc f.plane
  modLat s p fun x => { x with freed := RegFile.set 0 pool ((RegFile.get 0 pool x.freed + 1) % 65536) x.freed, lcfDirty := true }

/-- An accepted flit in its pool: delivered, held there or dropped (R276, R407, R414). -/
def poolFlit (s : State) (p : Nat) (f : Flit) : State :=
  let port := PortRef.lattice p
  if 3 ≤ f.vc then takeFlit (emptySlot s p f) port f (now16 s)
  else
    let hold := fun (s : State) => modLat s p fun x => { x with heldFlits := x.heldFlits ++ [f] }
    match epochRule s port f with
    | .drop => epochDrop (emptySlot s p f) port
    | .hold => hold s
    | .take =>
      let s := trafficFor s f.plane
      if planeReady s f.plane && flitFits s port f && !((latAt s p).heldFlits.any fun h => h.vc == f.vc && h.plane == f.plane) then
        takeFlit (emptySlot s p f) port f 0
      else hold s

/-- The flits held in the pools are tried again, in order. -/
def drainPools (s : State) (p : Nat) : State :=
  let fs := (latAt s p).heldFlits
  forAll fs (modLat s p fun x => { x with heldFlits := [] }) fun s f => poolFlit s p f

/-- What an accepted STEP_ARRIVE asks of the port: an LCF at once (R270), and the count of the credits that it is owed, which the LCF sent
directly before the STEP_ARRIVE has brought up to date (R271). DEDUCED (log entry 85). -/
def tookStepArrive (s : State) (p plane : Nat) : State :=
  lcfSoon (modLat s p fun x => { x with credits := RegFile.set 0 plane (planeUsed x plane) x.credits }) p false

/-- A sequenced flit (R272, steps 3 to 6). -/
def rxSeq (s : State) (p : Nat) (h : FlitHdr) (payload : List Byte) : State :=
  let x := latAt s p
  if h.seq = x.expSeq then
    let s := modLat s p fun x => { x with rxWaiting := false, lcfNak := false, expSeq := (x.expSeq + 1) % 2 ^ 24, lcfDirty := true }
    let s := if x.state == .quiet then latState s p .active else s
    let f : Flit := { seq := h.seq, epoch := h.epoch, vc := h.vc, plane := h.plane, first := h.first, last := h.last, payload := payload }
    let s := if h.vc < 3 then trafficFor s h.plane else s
    let s := if isStepArrive f then tookStepArrive s p f.plane else s
    checkRecovered (drainPools (poolFlit s p f) p) p
  else if seqBehind h.seq x.expSeq then latCnt s p 0x0E
  else nakAndWait s p

/-- FLIT_RX: `bytes` after FEC, `fecFail` where a codeword could not be corrected, `corrected` the symbols corrected by lane.
DESIGN CHOICE (log entry 108). -/
def doFlitRx (p : Nat) (bytes : List Byte) (fecFail : Bool) (corrected : List Nat) (s : State) : State :=
  if !flitsFlow (latAt s p) then s
  else
    let s := modLat s p fun x => { x with heard := true, txIdle := false }
    let s := forAll (corrected.take 8).zipIdx s fun s (n, i) => cntAdd s (0x7040 + p) (0x03 + i) n
    let s := if fecFail then latCnt s p 0x02 else s
    match (if fecFail then none else flitOf bytes) with
    | none => nakAndWait (latCnt s p 0x01) p
    | some (h, payload) =>
      if h.vc = 7 then takeLcf p (lcfOf payload) s
      else if h.vc = 6 then s
      else rxSeq s p h payload

/-! ### Timers -/

/-- LCF_INTERVAL: `elapsed` in flit times since the last LCF. -/
def doLcfInterval (p elapsed : Nat) (s : State) : State :=
  if 64 ≤ elapsed && (latAt s p).lcfDirty && flitsFlow (latAt s p) then lcfSoon s p false else s

/-- REPLAY_TIMER: `elapsed` in ns without ACK progress. DESIGN CHOICE (log entry 5). -/
def doReplayTimer (p elapsed : Nat) (s : State) : State :=
  let x := latAt s p
  if latOd s p 0x10 ≤ elapsed && !x.retry.isEmpty && flitsFlow x then replayOrRetrain s p else s

/-- LINK_RECOVERY_TIMEOUT: `elapsed` in µs since RECOVERING began. -/
def doLinkRecovery (p elapsed : Nat) (s : State) : State :=
  if (latAt s p).state == .recovering && (latAt s p).recoverLimit ≤ elapsed then latDown s p 1 else s

/-! ### CMD and QUIET -/

/-- CMD ENABLE. -/
def latEnable (s : State) (p : Nat) : State :=
  let s := modLat s p fun x => { x with enabled := true }
  if (latAt s p).state == .disabled then latState s p .absent else s

/-- CMD DISABLE: lanes off. -/
def latDisable (s : State) (p : Nat) : State :=
  modLat s p fun x => { latRestart x with enabled := false, state := .disabled, train := 0, lanes := List.replicate 8 {}, txq := [] }

/-- CMD RETRAIN: a full training (R252, R424). DEDUCED (log entry 35). -/
def latRetrain (s : State) (p : Nat) : State :=
  match (latAt s p).state with
  | .disabled => s
  | .test => s
  | .active => retrainKept s p 2
  | .recovering => retrainKept s p 2
  | .quiet => retrainKept s p 2
  | _ => trainFresh s p

/-- Whether CMD TEST is accepted (R256). -/
def latTestOk (s : State) (p : Nat) : Bool := (latAt s p).state == .disabled

/-- The conditions of QUIET: nothing to send, nothing retained, every credit returned (R256). -/
def latQuietOk (x : LatPort) : Bool :=
  x.state == .active && x.retry.isEmpty && x.txq.isEmpty && x.used.isEmpty && !x.lcfDue

/-- QUIET_ENTRY (R252, R256). -/
def doQuietEntry (p : Nat) (s : State) : State :=
  if latQuietOk (latAt s p) && s.power.state == .dormant then latState s p .quiet else s

/-- QUIET_REFRESH: `elapsed` in µs. An ACTIVE port that has heard no flit since the last refresh, with nothing but IDLE to send, has its
transmit direction in electrical idle, with the same bursts (R256, R415). DESIGN CHOICE (log entry 26). -/
def doQuietRefresh (p elapsed : Nat) (s : State) : State :=
  if elapsed < 100 then s
  else match (latAt s p).state with
    | .quiet => emit s (.refreshBurst p)
    | .active =>
      let s := modLat s p fun x => { x with heard := false, txIdle := x.txIdle || (!x.heard && idleOnly x) }
      if (latAt s p).txIdle then emit s (.refreshBurst p) else s
    | _ => s

/-! ### The commands -/

/-- A meaning that needs a lane of a port. -/
def withLane (s : State) (p lane : Nat) (f : State → State) : Host.Outcome State Fault Refusal :=
  if lane < 8 then withLat s p f else .fault (.absentUnit "lane" lane)

/-- LANE_SIGNAL_DETECT (R253). -/
def execLaneSignalDetect (port lane : Nat) (s : State) : Host.Outcome State Fault Refusal := withLane s port lane (doSignalDetect port lane)
/-- LANE_SIGNAL_LOSS (R254). -/
def execLaneSignalLoss (port : Nat) (lanes : BitVec 8) (s : State) : Host.Outcome State Fault Refusal := withLat s port (doSignalLoss port lanes)
/-- ABSENT_BURST (R253). -/
def execAbsentBurst (port elapsed : Nat) (s : State) : Host.Outcome State Fault Refusal := withLat s port (doAbsentBurst port elapsed)
/-- TRAINING_BLOCK (R248). -/
def execTrainingBlock (port lane : Nat) (mirrored : Bool) (bytes : List Byte) (s : State) : Host.Outcome State Fault Refusal :=
  withLane s port lane (doTrainingBlock port lane mirrored bytes)
/-- TRAINING_COMPLETE (R247). -/
def execTrainingComplete (port : Nat) (s : State) : Host.Outcome State Fault Refusal := withLat s port (doTrainingComplete port)
/-- FLIT_TX (R269). -/
def execFlitTx (port : Nat) (s : State) : Host.Outcome State Fault Refusal := withLat s port (doFlitTx port)
/-- FLIT_RX (R272). -/
def execFlitRx (port : Nat) (bytes : List Byte) (fecFail : Bool) (corrected : List Nat) (s : State) : Host.Outcome State Fault Refusal :=
  withLat s port (doFlitRx port bytes fecFail corrected)
/-- LCF (R270). -/
def execLcf (port : Nat) (i : LcfInfo) (s : State) : Host.Outcome State Fault Refusal := withLat s port (takeLcf port i)
/-- LCF_INTERVAL (R270). -/
def execLcfInterval (port elapsed : Nat) (s : State) : Host.Outcome State Fault Refusal := withLat s port (doLcfInterval port elapsed)
/-- REPLAY_TIMER (R273). -/
def execReplayTimer (port elapsed : Nat) (s : State) : Host.Outcome State Fault Refusal := withLat s port (doReplayTimer port elapsed)
/-- LINK_RECOVERY_TIMEOUT (R274). -/
def execLinkRecoveryTimeout (port elapsed : Nat) (s : State) : Host.Outcome State Fault Refusal := withLat s port (doLinkRecovery port elapsed)
/-- QUIET_ENTRY (R256). -/
def execQuietEntry (port : Nat) (s : State) : Host.Outcome State Fault Refusal := withLat s port (doQuietEntry port)
/-- QUIET_REFRESH (R256). -/
def execQuietRefresh (port elapsed : Nat) (s : State) : Host.Outcome State Fault Refusal := withLat s port (doQuietRefresh port elapsed)

end Sys2Proof.Machine
end

