-- ==== Sys2Proof/Machine/Adit.lean ====
section
/-! DEFINITION. Adit ports: sessions (R287, R288), frames and their order (R281 to R286), landing and retention (R289 to R294), recovery
(R295), keep-alives and QUIET (R301, R302). -/

namespace Sys2Proof.Machine

/-- STATE of an adit port (R287). -/
def AditState.no : AditState → Nat
  | .disabled => 0 | .absent => 1 | .hello => 2 | .active => 3 | .recovering => 4 | .down => 5 | .misconnected => 6 | .quiet => 7

/-- A subindex of a port's object range. -/
def aditOd (s : State) (a sub : Nat) : Nat := odGet s (0x4100 + a) sub
/-- A counter of a port. -/
def aditCnt (s : State) (a sub : Nat) : State := cnt s (0x7018 + a) sub
/-- The port in another state. -/
def aditState (s : State) (a : Nat) (st : AditState) : State := modAdit s a fun x => { x with state := st }

/-- The distance from SEQ `a` to `b` modulo 2^48. -/
def aditDist (a b : Nat) : Nat := (b + 2 ^ 48 - a % 2 ^ 48) % 2 ^ 48
/-- SEQ `a` is before `b` (R289). -/
def aditBefore (a b : Nat) : Bool := 0 < aditDist a b && aditDist a b < 2 ^ 47

/-! ### Reports (R290) -/

/-- The length of the run of consecutive SEQs from `n`. -/
def runFrom : Nat → List Nat → Nat
  | _, [] => 0
  | n, a :: r => if a = n then 1 + runFrom ((n + 1) % 2 ^ 48) r else 0

/-- HOLD_COUNT and HOLD_FIRST of a port. -/
def holdReport (x : AditPort) : Nat × Nat :=
  match (x.landing.map (·.seq)).filter (aditBefore x.ack ·) with
  | q :: r => (runFrom q (q :: r), q)
  | [] =>
    match x.dropMark with
    | some d => if aditBefore x.ack d then (0, d) else (0, 0)
    | none => (0, 0)

/-- The header of a frame that the port sends now (R283, R292). -/
def aditHdrNow (x : AditPort) (kind flits seq epoch : Nat) (service : Bool) (plane : Nat) : AditHdr :=
  let (n, first) := holdReport x
  { kind := kind, flits := flits, seq := seq, epoch := epoch, ack := x.ack, holdCount := n, holdFirst := first
    landingFree := 2048 - x.landing.length, version := 1, packed := x.packTx, service := service, plane := plane }

/-- What the port's objects say of its frames. -/
def frameCfg (s : State) (a : Nat) : FrameCfg :=
  { localMac := aditOd s a 0x07, peerMac := aditOd s a 0x08, etherType := aditOd s a 0x09, vlan := aditOd s a 0x0A }

/-- A frame leaves the port. -/
def emitFrame (s : State) (a : Nat) (h : AditHdr) (payload : List Byte) : State :=
  let s := emit s (.frame a (frameBytes (frameCfg s a) h payload))
  modAdit (aditCnt s a 0x01) a fun x => { x with dirty := false, ctrlDue := false }

/-- A CTRL frame (R284). -/
def sendCtrl (s : State) (a : Nat) : State :=
  let x := aditAt s a
  emitFrame s a (aditHdrNow x 2 0 x.nextSeq 0 false 0) []

/-- A HELLO frame (R284). -/
def sendHello (s : State) (a : Nat) : State :=
  let x := aditAt s a
  emitFrame s a (aditHdrNow x 3 0 x.nextSeq 0 false 0)
    (helloBytes { node := nodeId s, port := a, peerSeen := x.peerSeen, packOk := aditOd s a 0x0C == 1
                  flitsMax := aditOd s a 0x0B, session := x.session.toNat })

/-! ### Sessions (R287, R288, R295) -/

/-- Sequence, landing, ring and reassembly emptied, no packing in force. -/
def aditClear (x : AditPort) : AditPort :=
  { x with nextSeq := 0, ack := 0, landing := [], dropMark := none, ring := [], resend := [], peerFree := 2048, rtts := []
           recoverGoal := none, partMsg := [], parts := [], stepGoals := [], credits := []
           packTx := false, packRx := false, dirty := false, ctrlDue := false }

/-- The port enters HELLO with a new session. -/
def enterHello (s : State) (a : Nat) : State :=
  modAdit s a fun x => { aditClear x with state := .hello, session := gtcNow s, peerSeen := false, peerSession := none }

/-- Flits of the messages that wait for a session. -/
def waitingFlits (x : AditPort) : Nat := (x.waitMsgs.map fun w => (portFlits w.1 false w.2.1 w.2.2).length).sum

/-- The port enters DOWN, and with the link low at once ABSENT (R287): the record first, then what waits on the link (R295, R360).
DEDUCED (log entry 36). -/
def aditDown (s : State) (a cause : Nat) : State :=
  let s := odSet s (0x4100 + a) 0x18 cause
  let s := sump s 0x0010 0 4 a 0xFF 0xFFFFFF cause (u64 (aditOd s a 0x05 * 2 ^ 32 + aditOd s a 0x06))
  let dropped := ((aditAt s a).txq.filter fun f => f.vc < 3).length + waitingFlits (aditAt s a)
  let closed := (List.range s.params.planes).foldl (fun r k => RegFile.put k (epochOf s k) r) []
  let s := modAdit s a fun x =>
    { aditClear x with state := if x.linkUp then .down else .absent, session := gtcNow s, peerSeen := false, peerSession := none
                       closedAt := closed, txq := x.txq.filter fun f => 3 ≤ f.vc, waitMsgs := [] }
  linkDown (cntAdd s (0x7018 + a) 0x0E dropped) (.adit a) 0x0010

/-- The port enters RECOVERING. -/
def aditRecover (s : State) (a : Nat) : State :=
  match (aditAt s a).state with
  | .active => start s
  | .quiet => start s
  | _ => s
where
  /-- Recovery begins now. -/
  start (s : State) : State :=
    modAdit (aditCnt s a 0x0C) a fun x => { x with
      state := .recovering, recoverGoal := some x.nextSeq, recoverLimit := odGet s 0x6020 0x04 }

/-- Whether recovery has ended (R295). -/
def aditRecovered (x : AditPort) : Bool :=
  x.linkUp && !(x.landing.any fun f => aditBefore x.ack f.seq || f.lost) &&
    (match x.recoverGoal, x.ring with
     | some g, f :: _ => !aditBefore f.seq g
     | _, _ => true)

/-- RECOVERING ends where it may. -/
def aditCheckRecovered (s : State) (a : Nat) : State :=
  modAdit s a fun x =>
    if x.state == .recovering && aditRecovered x then { x with state := .active, recoverGoal := none } else x

/-- The port enters ACTIVE: both directions start at SEQ 0 and ACK 0, packing as R288 says, and what has waited for the session travels
as it says. -/
def aditActivate (s : State) (a : Nat) : State :=
  let pack := aditOd s a 0x0C == 1 && (aditAt s a).peerPack
  let waits := (aditAt s a).waitMsgs
  let s := modAdit (aditCnt s a 0x0D) a fun x =>
    { aditClear x with state := .active, ctrlDue := true, packTx := pack, packRx := pack, waitMsgs := [] }
  forAll waits s fun s w => aditQueue s a w.1 w.2.1 w.2.2

/-- Whether an identity is the one expected (R288). -/
def aditIdentOk (s : State) (a : Nat) (node port : Nat) : Bool :=
  (aditOd s a 0x03 == 0xFFFFFFFF || aditOd s a 0x03 == node) && (aditOd s a 0x04 == 0xFFFF || aditOd s a 0x04 == port)

/-- A HELLO in HELLO or DOWN: PEER_SEEN follows any that passes R281. -/
def helloTaken (s : State) (a : Nat) (h : HelloBlock) : State :=
  let s := odSet (odSet s (0x4100 + a) 0x05 h.node) (0x4100 + a) 0x06 h.port
  let s := modAdit s a fun x =>
    { x with peerSeen := true, peerSession := some (u64 h.session), peerFlitsMax := h.flitsMax, peerPack := h.packOk }
  if !aditIdentOk s a h.node h.port then
    misconnectedRecord (aditState s a .misconnected) 4 a (aditOd s a 0x03) (aditOd s a 0x04) h.node h.port
  else if h.peerSeen then aditActivate s a
  else s

/-- A HELLO block arrives (R288). -/
def takeHello (s : State) (a : Nat) (h : HelloBlock) : State :=
  let x := aditAt s a
  match x.state with
  | .hello => helloTaken s a h
  | .down => helloTaken s a h
  | .misconnected =>
    if aditIdentOk s a h.node h.port then helloTaken (enterHello s a) a h
    else odSet (odSet s (0x4100 + a) 0x05 h.node) (0x4100 + a) 0x06 h.port
  | .disabled => s
  | .absent => s
  | _ =>
    if x.peerSession == some (u64 h.session) then s
    else if (aditOd s a 0x05, aditOd s a 0x06) == (h.node, h.port) then aditDown s a 2
    else aditDown s a 3

/-! ### Reports received (R293, R294, R296) -/

/-- VC 0 and VC 1 flits of a plane in unacknowledged frames (R296). -/
def ringCredits (x : AditPort) (plane : Nat) : Nat :=
  (x.ring.map fun f => (f.flits.filter fun g => g.vc < 2 && g.plane == plane).length).sum

/-- RTT: the smallest DATA-to-ACK time of the last 64 ms, in ns; frames that were resent give none (log entry 25). -/
def takeRtt (s : State) (a : Nat) (acked : List AditFrame) : State :=
  let now := gtcNow s
  let fresh := (acked.filter fun f => f.resentAt.isNone).map fun f => (now, (now - f.sentAt).toNat)
  let kept := ((aditAt s a).rtts.filter fun r => (now - r.1).toNat ≤ 64000000) ++ fresh
  let s := modAdit s a fun x => { x with rtts := kept }
  match (kept.map (·.2)).min? with
  | some m => odSet s (0x4100 + a) 0x11 (min m 0xFFFFFFFF)
  | none => s

/-- Whether a frame was resent less than RTT + 20 µs ago; until RTT has been measured RESEND_TIMER stands for it (R294). -/
def resentLately (s : State) (a : Nat) (f : AditFrame) : Bool :=
  match f.resentAt with
  | none => false
  | some t =>
    let rtt := if aditOd s a 0x11 = 0 then aditOd s a 0x10 * 1000 else aditOd s a 0x11
    (gtcNow s - t).toNat < rtt + 20000

/-- ACK, HOLD and LANDING_FREE of a received frame. -/
def takeReport (s : State) (a : Nat) (h : AditHdr) : State :=
  let x := aditAt s a
  let acked := x.ring.takeWhile fun f => aditBefore f.seq h.ack
  let kept := x.ring.drop acked.length
  let s := modAdit s a fun x => { x with
    ring := kept, peerFree := h.landingFree, resend := x.resend.filter fun q => !aditBefore q h.ack }
  let s := if acked.isEmpty then s else takeRtt s a acked
  let goals := x.stepGoals.filter fun g => aditBefore g.2 h.ack
  let s := modAdit s a fun x => { x with
    stepGoals := x.stepGoals.filter fun g => !aditBefore g.2 h.ack
    credits := goals.foldl (fun r g => RegFile.set 0 g.1 (ringCredits x g.1) r) x.credits }
  let missing := if h.holdCount = 0 && h.holdFirst = 0 then [] else kept.filter fun f => aditBefore f.seq h.holdFirst && !resentLately s a f
  drainKick (modAdit s a fun x => { x with
    resend := missing.foldl (fun l f => if l.contains f.seq then l else l ++ [f.seq]) x.resend })

/-! ### Frames received (R281, R285, R290) -/

/-- A DATA frame into the landing, in SEQ order. -/
def insertFrame (f : AditFrame) : List AditFrame → List AditFrame
  | [] => [f]
  | g :: r => if aditBefore f.seq g.seq then f :: g :: r else g :: insertFrame f r

/-- ACK advanced over frames that are held, at most `fuel` of them. -/
def advanceAck (held : List Nat) : Nat → Nat → Nat
  | 0, ack => ack
  | fuel + 1, ack => if held.contains ack then advanceAck held fuel ((ack + 1) % 2 ^ 48) else ack

/-- The stream of a frame: its plane, 8 for the service stream. -/
def streamOf (f : AditFrame) : Nat := if f.service then 8 else f.plane

/-- A DATA frame (R290); a new one ends QUIET (R302), and one that brings a STEP_ARRIVE asks for the plane's count of R296, its own report
taken. DEDUCED (log entry 85). -/
def takeData (s : State) (a : Nat) (f : AditFrame) : State :=
  let x := aditAt s a
  if aditBefore f.seq x.ack || (x.landing.any fun g => g.seq == f.seq) then aditCnt s a 0x06
  else if 2048 ≤ aditDist x.ack f.seq || 2048 ≤ x.landing.length then
    let mark := (f.seq + 1) % 2 ^ 48
    modAdit (aditCnt s a 0x07) a fun x => { x with
      dirty := true
      dropMark := match x.dropMark with
        | some d => if aditBefore d mark then some mark else some d
        | none => some mark }
  else
    let s := modAdit s a fun x =>
      let l := insertFrame f x.landing
      { x with
        state := if x.state == .quiet then .active else x.state
        landing := l, ack := advanceAck (l.map (·.seq)) 2048 x.ack, dirty := true
        credits := if f.flits.any isStepArrive then RegFile.set 0 f.plane (ringCredits x f.plane) x.credits else x.credits }
    let s := if f.service then s else trafficFor s f.plane
    postAll s ((List.range 9).map fun k => Instr.landingDeliver a k)

/-- The flits of a DATA frame; none where the frame is to be discarded whole (R285). -/
def dataFlits (h : AditHdr) (payload : List Byte) : Option (List Flit) :=
  let fs := (List.range h.flits).map fun i => flitOf ((payload.drop (256 * i)).take 256)
  let good := fs.all fun f => match f with
    | none => false
    | some (g, _) =>
      g.seq == 0 && (if h.service then g.plane == 0 && (g.vc == 3 || (g.vc == 4 && h.flits == 1))
                     else g.vc < 3 && g.plane == h.plane && g.epoch == h.epoch)
  if good then
    some (fs.filterMap fun f => f.map fun (g, p) =>
      { epoch := g.epoch, vc := g.vc, plane := g.plane, first := g.first, last := g.last, payload := p })
  else none

/-- Whether a header is well formed (R283): every field at a value that its table gives. A nonzero reserved bit makes it malformed.
DESIGN CHOICE (log entry 38). -/
def aditHdrOk (bs : List Byte) (h : AditHdr) : Bool :=
  aditWords h == (List.range 4).map (fun i => (wordAt bs (8 * i)).toNat) && h.version == 1
    && h.holdCount ≤ 2048 && h.landingFree ≤ 2048 && ((h.kind == 1 && !h.service) || (h.epoch == 0 && h.plane == 0))
    && (if h.kind == 1 then 1 ≤ h.flits && h.flits ≤ 32 else (h.kind == 2 || h.kind == 3) && h.flits == 0)

/-- The 32 header bytes of a frame that passed the filters. -/
def hdrBytes (c : FrameCfg) (bs : List Byte) : List Byte := (bs.drop (if bitOf c.vlan 16 then 18 else 14)).take 32

/-- A frame from the client interface: `err` is the MAC's mark (R280, R281). DESIGN CHOICE (log entry 38). -/
def doFrame (a : Nat) (bytes : List Byte) (err : Bool) (s : State) : State :=
  let x := aditAt s a
  if x.state == .disabled || x.state == .absent then s
  else if err then aditCnt s a 0x04
  else
    let c := frameCfg s a
    match frameOf c bytes with
    | none => aditCnt s a 0x05
    | some (h, payload) =>
      if !aditHdrOk (hdrBytes c bytes) h then aditCnt s a 0x09
      else if h.kind = 3 then
        if payload.length < 32 then aditCnt s a 0x09 else takeHello (aditCnt s a 0x02) a (helloOf payload)
      else if !aditLive x then
        if h.kind = 2 && x.peerSeen && (x.state == .hello || x.state == .down) then aditActivate (aditCnt s a 0x02) a else s
      else if h.kind = 2 then aditCheckRecovered (takeReport (aditCnt s a 0x02) a h) a
      else
        match dataFlits h payload with
        | none => aditCnt s a 0x04
        | some fs =>
          let s := takeReport (aditCnt s a 0x02) a h
          aditCheckRecovered
            (takeData s a { seq := h.seq, epoch := h.epoch, service := h.service, plane := h.plane, packed := h.packed, flits := fs
                            stamp := arrivalAt s (.adit a) }) a

/-! ### The landing delivers (R291) -/

/-- Whether the destination accepts a flit of a frame now. -/
def flitAccepted (s : State) (a : Nat) (f : AditFrame) (g : Flit) : Bool :=
  f.service ||
    match epochRule s (.adit a) g with
    | .drop => true
    | .take => planeReady s g.plane && flitFits s (.adit a) g
    | .hold => false

/-- The flits of a frame delivered, dropped where R276 says so, until one has to wait: the state, and the flits that are left. -/
def deliverFlits (a : Nat) (f : AditFrame) : List Flit → State → State × List Flit
  | [], s => (s, [])
  | g :: r, s =>
    if !flitAccepted s a f g then (s, g :: r)
    else deliverFlits a f r
      (if f.service || epochRule s (.adit a) g == .take then takeFlit s (.adit a) g f.stamp else epochDrop s (.adit a))

/-- One frame of the landing delivered, and whether all of it was; its slot is freed with its last flit. One whose codeword is lost is not
delivered (R354). -/
def deliverFrame (s : State) (a : Nat) (f : AditFrame) : State × Bool :=
  if f.lost then (s, false)
  else
    let (s, left) := deliverFlits a f f.flits s
    if left.isEmpty then (modAdit s a fun x => { x with landing := x.landing.filter fun g => g.seq != f.seq, dirty := true }, true)
    else
      (modAdit s a fun x => { x with landing := x.landing.map fun g => if g.seq = f.seq then { g with flits := left } else g }, false)

/-- LANDING_DELIVER: frames of a stream below ACK, in SEQ order, until one has to wait. -/
def doLandingDeliver (a stream : Nat) (s : State) : State :=
  let x := aditAt s a
  let fs := x.landing.filter fun f => streamOf f == stream && aditBefore f.seq x.ack
  let r := fs.foldl (fun (r : State × Bool) f => if r.2 then deliverFrame r.1 a f else r) (s, true)
  aditCheckRecovered r.1 a

/-! ### Sending (R285, R286, R292, R293) -/

/-- The largest frame in flits. -/
def frameMax (s : State) (a : Nat) : Nat := min (aditOd s a 0x0B) (aditAt s a).peerFlitsMax

/-- The leading flits that one frame takes: `n` at most, of one epoch, up to the LAST flit of a VC 2 or VC 3 message. -/
def frameTake : Nat → Nat → List Flit → List Flit
  | 0, _, _ => []
  | _ + 1, _, [] => []
  | n + 1, e, f :: r =>
    if f.epoch != e then []
    else if f.last && (f.vc == 2 || f.vc == 3) then [f]
    else f :: frameTake n e r

/-- The next frame of a stream (0 to 7 a plane, 8 VC 3, 9 VC 4), if it has closed (R286). -/
def nextFrame (s : State) (a stream : Nat) : Option (List Flit) :=
  let x := aditAt s a
  let mine := x.txq.filter fun f =>
    if stream < 8 then f.vc < 3 && f.plane == stream else if stream = 8 then f.vc == 3 else f.vc == 4
  match mine with
  | [] => none
  | f :: _ =>
    if stream = 9 then some [f]
    else
      let fs := frameTake (frameMax s a) f.epoch mine
      let ends := fs.any fun g => g.last && (g.vc == 2 || g.vc == 3)
      if fs.length = frameMax s a || ends || fs.length < mine.length || x.closedFrames.contains stream then some fs else none

/-- Bytes that a frame takes of the ring (R293). -/
def ringBytes (fs : List Flit) : Nat := 64 + 256 * fs.length

/-- Whether a new DATA frame may be sent now (R293). -/
def mayRetain (s : State) (a : Nat) (fs : List Flit) : Bool :=
  let x := aditAt s a
  (x.ring.map fun f => ringBytes f.flits).sum + ringBytes fs ≤ aditOd s a 0x0F * 2 ^ 20 && 256 ≤ x.peerFree

/-- The payload of a DATA frame; VC 4 flits are stamped at each transmission (R303), and an injection of kind 5 corrupts a CRC. -/
def framePayload (s : State) (a : Nat) (fs : List Flit) : State × List Byte :=
  let now := now16 s + odGet s 0x6042 (0x01 + a) * 65536 / 1000
  let (kind, s) := injectAt s 4 a [5]
  let bytes := fs.flatMap fun f =>
    let payload := match f.time with
      | some m => timeBytes { m with tTx := now / 65536, tTxFrac := now % 65536 }
      | none => f.payload
    flitBytes { seq := 0, epoch := f.epoch, vc := f.vc, plane := if f.vc < 3 then f.plane else 0
                first := f.first, last := f.last, len := payload.length } payload
  (s, if kind = 5 then bytes.modify 255 (fun b => b ^^^ 1) else bytes)

/-- A retained DATA frame on the interface. -/
def emitData (s : State) (a : Nat) (f : AditFrame) : State :=
  let (s, payload) := framePayload s a f.flits
  emitFrame s a (aditHdrNow (aditAt s a) 1 f.flits.length f.seq (if f.service then 0 else f.epoch) f.service (if f.service then 0 else f.plane))
    payload

/-- An access to the port's area of the retransmission partition for a frame (R293, R430). -/
def ringAccess (s : State) (a : Nat) (fs : List Flit) (write : Bool) : State :=
  packageRequest s (aditOd s a 0x0E) (aditOd s a 0x0F * 2 ^ 20) (ringBytes fs) write

/-- A new DATA frame: its SEQ, its place in the ring, and the frame itself, unless an injection of kind 6 holds it back (R405). -/
def sendData (s : State) (a stream : Nat) (fs : List Flit) : State :=
  let service := 8 ≤ stream
  let x := aditAt s a
  let (ring, s) := injectAt s 4 a [1, 2, 3]
  let s := if ring = 1 || ring = 2 then cnt s 0x7000 0x0E else s
  let f : AditFrame :=
    { seq := x.nextSeq, epoch := (fs.head?.map (·.epoch)).getD 0, service := service, plane := if service then 0 else stream
      packed := x.packTx, flits := fs.map (stampEpoch s), sentAt := gtcNow s, lost := ring = 3 }
  let s := modAdit s a fun x => { x with
    state := if x.state == .quiet then .active else x.state
    nextSeq := (x.nextSeq + 1) % 2 ^ 48
    ring := x.ring ++ [f]
    txq := fs.foldl (fun q g => q.erase g) x.txq
    closedFrames := x.closedFrames.filter fun k => k != stream
    lastPlane := if service then x.lastPlane else stream
    stepGoals := if fs.any isStepArrive then (x.stepGoals.filter fun g => g.1 != stream) ++ [(stream, f.seq)] else x.stepGoals }
  let (kind, s) := injectAt (ringAccess s a fs true) 4 a [6]
  if kind = 6 then s else emitData s a f

/-- A frame sent again (R294, R295); one whose codeword is lost is not (R354). -/
def resendFrame (s : State) (a : Nat) (f : AditFrame) : State :=
  let s := ringAccess (aditRecover s a) a f.flits false
  let s := modAdit s a fun x => { x with
    resend := x.resend.filter fun q => q != f.seq
    ring := x.ring.map fun g => if g.seq = f.seq then { g with resentAt := some (gtcNow s) } else g }
  if f.lost then sump (useFree s) 0x000E 0 4 a 0xFF 0xFFFFFF 6 (u64 (freeVal s))
  else emitData (aditCnt s a 0x03) a f

/-- The planes in turn, after the one served last. DESIGN CHOICE (log entry 107). -/
def planeTurns (s : State) (a : Nat) : List Nat := (List.range 8).map fun i => ((aditAt s a).lastPlane + 1 + i) % 8

/-- The streams in the order of R286: VC 4, frames with VC 2 flits, VC 3, plane streams in turn. -/
def streamOrder (s : State) (a : Nat) : List Nat :=
  let withCtl := (planeTurns s a).filter fun k => match nextFrame s a k with
    | some fs => fs.any fun f => f.vc == 2
    | none => false
  [9] ++ withCtl ++ [8] ++ planeTurns s a

/-- The first stream with a closed frame. -/
def firstFrame (s : State) (a : Nat) : List Nat → Option (Nat × List Flit)
  | [] => none
  | k :: r =>
    match nextFrame s a k with
    | some fs => some (k, fs)
    | none => firstFrame s a r

/-- ADIT_FRAME_TX: the MAC is ready. -/
def doFrameTx (a : Nat) (s : State) : State :=
  let x := aditAt s a
  if !aditLive x || !x.linkUp then s
  else
    match (x.ring.filter fun f => x.resend.contains f.seq).head? with
    | some f => resendFrame s a f
    | none =>
      match firstFrame s a (streamOrder s a) with
      | some (k, fs) => if mayRetain s a fs then sendData s a k fs else sendCtrl (aditCnt s a 0x08) a
      | none => if x.ctrlDue then sendCtrl s a else s

/-! ### Timers and pins -/

/-- ADIT_LINK_UP. -/
def doAditUp (a : Nat) (s : State) : State :=
  let s := modAdit s a fun x => { x with linkUp := true }
  match (aditAt s a).state with
  | .absent => enterHello s a
  | _ => aditCheckRecovered s a

/-- ADIT_LINK_DOWN (R287, R295). -/
def doAditDown (a : Nat) (s : State) : State :=
  let s := modAdit s a fun x => { x with linkUp := false }
  match (aditAt s a).state with
  | .active => aditRecover s a
  | .quiet => aditRecover s a
  | .hello => aditState s a .absent
  | .down => aditState s a .absent
  | .misconnected => aditState s a .absent
  | _ => s

/-- HELLO_TIMER: `elapsed` in ms. -/
def doHelloTimer (a elapsed : Nat) (s : State) : State :=
  if elapsed < 1 then s
  else match (aditAt s a).state with
    | .hello => sendHello s a
    | .down => sendHello s a
    | .misconnected => sendHello s a
    | _ => s

/-- FRAME_HOLD_EXPIRY: `elapsed` in ns since the first flit of the stream's frame. -/
def doFrameHold (a stream elapsed : Nat) (s : State) : State :=
  if elapsed < aditOd s a 0x15 then s
  else modAdit s a fun x => { x with closedFrames := insertNat stream x.closedFrames }

/-- KEEPALIVE: `elapsed` in µs since the last frame. -/
def doKeepalive (a elapsed : Nat) (s : State) : State :=
  let x := aditAt s a
  let works := x.state == .active || x.state == .recovering
  if works && ((x.dirty && 2 ≤ elapsed) || aditOd s a 0x12 ≤ elapsed) then sendCtrl s a else s

/-- KEEPALIVE_DORMANT: `elapsed` in µs. -/
def doKeepaliveDormant (a elapsed : Nat) (s : State) : State :=
  if (aditAt s a).state == .quiet && aditOd s a 0x13 ≤ elapsed then sendCtrl s a else s

/-- RESEND_TIMER: `elapsed` in µs without ACK progress. -/
def doResendTimer (a elapsed : Nat) (s : State) : State :=
  let x := aditAt s a
  match x.ring with
  | f :: _ =>
    if aditLive x && aditOd s a 0x10 ≤ elapsed && !x.resend.contains f.seq then
      modAdit s a fun x => { x with resend := f.seq :: x.resend }
    else s
  | [] => s

/-- SILENCE: `elapsed` in µs without a received frame. DESIGN CHOICE (log entry 5). -/
def doSilence (a elapsed : Nat) (s : State) : State := if aditOd s a 0x14 ≤ elapsed then aditRecover s a else s

/-- ADIT_RECOVERY_TIMEOUT: `elapsed` in µs since RECOVERING began. -/
def doAditRecovery (a elapsed : Nat) (s : State) : State :=
  if (aditAt s a).state == .recovering && (aditAt s a).recoverLimit ≤ elapsed then aditDown s a 1 else s

/-- The conditions of QUIET (R302). -/
def aditQuietOk (x : AditPort) : Bool := x.state == .active && x.ring.isEmpty && x.landing.isEmpty && x.txq.isEmpty

/-- ADIT_QUIET_ENTRY (R302). -/
def doAditQuiet (a : Nat) (s : State) : State :=
  if aditQuietOk (aditAt s a) && s.power.state == .dormant then aditState s a .quiet else s

/-! ### CMD -/

/-- Whether CMD ENABLE is accepted (R287). -/
def aditEnableOk (s : State) (a : Nat) : Bool := aditOd s a 0x07 != 0 && aditOd s a 0x08 != 0 && aditOd s a 0x0F != 0

/-- CMD ENABLE. -/
def aditEnableDo (s : State) (a : Nat) : State :=
  let s := modAdit s a fun x => { x with enabled := true }
  if (aditAt s a).state == .disabled then (if (aditAt s a).linkUp then enterHello s a else aditState s a .absent) else s

/-- CMD DISABLE. -/
def aditDisableDo (s : State) (a : Nat) : State :=
  modAdit s a fun x => { aditClear x with enabled := false, state := .disabled, txq := [], closedFrames := [], waitMsgs := [] }

/-- CMD RESTART: a new session in HELLO, or ABSENT with the link low (R287); flits formed for the old session go with it.
DEDUCED (log entry 35). -/
def aditRestart (s : State) (a : Nat) : State :=
  match (aditAt s a).state with
  | .disabled => s
  | .absent => s
  | _ =>
    let s := modAdit (enterHello s a) a fun x => { x with txq := x.txq.filter fun f => 3 ≤ f.vc }
    if (aditAt s a).linkUp then s else aditState s a .absent

/-! ### What waits at an input of a quern (R16, R355) -/

/-- What waits for input `i` of position `q` is offered again: messages at it, then the flits in the pools or the landing of its port. -/
def offerInput (q i : Nat) (s : State) : State :=
  let s := doWaiting q i s
  match (inputAt s q i).src with
  | .lattice p => drainPools s p
  | .adit a => forAll (List.range 9) s fun s k => doLandingDeliver a k s
  | _ => s

/-! ### The commands -/

/-- WAITING_SEGMENT_ACCEPTED (R16). -/
def execWaitingSegmentAccepted (q input : Nat) (s : State) : Host.Outcome State Fault Refusal := withQuern s q (offerInput q input)

/-- ADIT_LINK_UP (R287). -/
def execAditLinkUp (a : Nat) (s : State) : Host.Outcome State Fault Refusal := withAdit s a (doAditUp a)
/-- ADIT_LINK_DOWN (R295). -/
def execAditLinkDown (a : Nat) (s : State) : Host.Outcome State Fault Refusal := withAdit s a (doAditDown a)
/-- DATA (R290). -/
def execData (a : Nat) (frame : List Byte) (err : Bool) (s : State) : Host.Outcome State Fault Refusal := withAdit s a (doFrame a frame err)
/-- CTRL (R284). -/
def execCtrl (a : Nat) (frame : List Byte) (err : Bool) (s : State) : Host.Outcome State Fault Refusal := withAdit s a (doFrame a frame err)
/-- HELLO (R288). -/
def execHello (a : Nat) (frame : List Byte) (err : Bool) (s : State) : Host.Outcome State Fault Refusal := withAdit s a (doFrame a frame err)
/-- HELLO_TIMER (R287). -/
def execHelloTimer (a elapsed : Nat) (s : State) : Host.Outcome State Fault Refusal := withAdit s a (doHelloTimer a elapsed)
/-- ADIT_FRAME_TX (R286). -/
def execAditFrameTx (a : Nat) (s : State) : Host.Outcome State Fault Refusal := withAdit s a (doFrameTx a)
/-- FRAME_HOLD_EXPIRY (R286). -/
def execFrameHoldExpiry (a stream elapsed : Nat) (s : State) : Host.Outcome State Fault Refusal := withAdit s a (doFrameHold a stream elapsed)
/-- KEEPALIVE (R292). -/
def execKeepalive (a elapsed : Nat) (s : State) : Host.Outcome State Fault Refusal := withAdit s a (doKeepalive a elapsed)
/-- KEEPALIVE_DORMANT (R302). -/
def execKeepaliveDormant (a elapsed : Nat) (s : State) : Host.Outcome State Fault Refusal := withAdit s a (doKeepaliveDormant a elapsed)
/-- RESEND_TIMER (R294). -/
def execResendTimer (a elapsed : Nat) (s : State) : Host.Outcome State Fault Refusal := withAdit s a (doResendTimer a elapsed)
/-- SILENCE (R295). -/
def execSilence (a elapsed : Nat) (s : State) : Host.Outcome State Fault Refusal := withAdit s a (doSilence a elapsed)
/-- ADIT_RECOVERY_TIMEOUT (R295). -/
def execAditRecoveryTimeout (a elapsed : Nat) (s : State) : Host.Outcome State Fault Refusal := withAdit s a (doAditRecovery a elapsed)
/-- LANDING_DELIVER (R291). -/
def execLandingDeliver (a stream : Nat) (s : State) : Host.Outcome State Fault Refusal := withAdit s a (doLandingDeliver a stream)
/-- ADIT_QUIET_ENTRY (R302). -/
def execAditQuietEntry (a : Nat) (s : State) : Host.Outcome State Fault Refusal := withAdit s a (doAditQuiet a)

end Sys2Proof.Machine
end

