-- ==== Sys2Proof/Machine/Epochs.lean ====
section
/-! DEFINITION. Tree epochs: the staged set (R399 to R402), its checks (R70, R76, R77), the exchange with the children (R314, R315), APPLY
(R310, R317, R358, R364, R422), SPAN_REPORT (R277), and the drain of a plane (R420, R421, R423). -/

namespace Sys2Proof.Machine

/-- A management operation answers with its STATUS (R386). -/
abbrev Done := State × Nat

/-! ### The staged set (R399, R402) -/

/-- Whether the staged set binds tap `t` (R150, R422). -/
def stagedTap (s : State) (t : Nat) : Bool := t < s.params.taps && !bitOf (odGet s (0x3000 + t) 0x01) 31 && cqValid s t

/-- The staged value of a tree object. The sources of leaf inputs and of the leaf inputs of a plane quern are fixed; a tap input's span
follows the tap's staged CONTRIB_INDEX (R18, R19, R402). DEDUCED (log entries 43, 90). -/
def stagedGet (s : State) (i sub : Nat) : Nat :=
  let v := odGet s i sub
  if i < 0x2240 || 0x2240 + s.params.positions ≤ i || s.params.taps = 0 then v
  else
    let q := i - 0x2240
    if q < s.params.leafQuerns then
      if 0x10 ≤ sub && sub < 0x20 then
        let t := 16 * q + (sub - 0x10)
        if stagedTap s t then 2 ^ 60 + t * 2 ^ 52 + odGet s (0x3000 + t) 0x01 % 2 ^ 24 else 0
      else if 0x20 ≤ sub && sub < 0x30 then
        if stagedTap s (16 * q + (sub - 0x20)) then 2 ^ 32 + v % 2 ^ 32 else 0
      else v
    else
      let fixed := fun (g : Nat) => g < s.params.leafQuerns
      let fed := fun (g : Nat) => (List.range 16).any fun j => stagedTap s (16 * g + j)
      if 0x10 ≤ sub && sub < 0x20 && fixed (sub - 0x10) then
        if fed (sub - 0x10) then 4 * 2 ^ 60 + (sub - 0x10) * 2 ^ 52 + v % 2 ^ 52 else 0
      else if 0x20 ≤ sub && sub < 0x30 && fixed (sub - 0x20) then (if fed (sub - 0x20) then v else 0)
      else v

/-- The subindices of a plane object that a tree epoch takes over. -/
def planeSubs : List Nat := [0x01, 0x02, 0x03, 0x04, 0x05, 0x06, 0x07, 0x0B]
/-- Those of a quern object. -/
def quernSubs : List Nat := [0x01, 0x02, 0x03] ++ (List.range 32).map fun i => 0x10 + i

/-- Every tree object in force: 0x2201, 0x2210 + k, 0x2240 + q. -/
def treeKeys (s : State) : List (Nat × Nat) :=
  ((List.range 14).map fun i => (0x2201, 1 + i))
    ++ (List.range s.params.planes).flatMap (fun k => planeSubs.map fun b => (0x2210 + k, b))
    ++ (List.range s.params.positions).flatMap fun q => quernSubs.map fun b => (0x2240 + q, b)

/-- Whether the staged set makes plane `k` active. -/
def stagedActive (s : State) (k : Nat) : Bool := odGet s (0x2210 + k) 0x01 == 1

/-- The quern positions above the leaf querns that the objects give plane `k`. -/
def upperQuerns (s : State) (get : Nat → Nat → Nat) (k : Nat) : List Nat :=
  (List.range s.params.positions).filter fun q => !isLeaf s q && get (0x2240 + q) 0x01 == k

/-- The leaf querns with a present input. -/
def usedLeafs (s : State) (get : Nat → Nat → Nat) : List Nat :=
  (List.range s.params.leafQuerns).filter fun q => !(inputsFrom get q).isEmpty

/-- Whether the staged value of an object differs from the value in force. -/
def treeDiffers (s : State) (key : Nat × Nat) : Bool := stagedGet s key.1 key.2 != cfg s key.1 key.2

/-- Whether the staged set changes plane `k`: its object, a quern of it, or a leaf quern while it is active. DEDUCED (log entry 106). -/
def planeChanged (s : State) (k : Nat) : Bool :=
  let leafs := (List.range s.params.leafQuerns).any fun q => quernSubs.any fun b => treeDiffers s (0x2240 + q, b)
  let qs := (List.range s.params.positions).filter fun q =>
    !isLeaf s q && (odGet s (0x2240 + q) 0x01 == k || cfg s (0x2240 + q) 0x01 == k)
  let act := stagedActive s k || cfg s (0x2210 + k) 0x01 == 1
  (planeSubs.any fun b => treeDiffers s (0x2210 + k, b))
    || (act && (leafs || qs.any fun q => quernSubs.any fun b => treeDiffers s (0x2240 + q, b)))

/-- EPOCH_PLANES (R400). DEDUCED (log entry 106). -/
def changedPlanes (s : State) : List Nat := (List.range s.params.planes).filter (planeChanged s)

/-- A set of planes as bits. -/
def planeBits (l : List Nat) : Nat := l.foldl (fun n k => n ||| 2 ^ k) 0

/-- Whether every active plane of the instance is drained (R310). -/
def drainsAll (s : State) : Bool := (activePlanes s).all fun k => planeState s k == 3

/-- Whether every active plane is, or will have to be, drained when the staged set is applied (R310, R314). DEDUCED (log entry 120). -/
def willDrainAll (s : State) (ch : List Nat) : Bool :=
  (activePlanes s).all fun k => ch.contains k || planeState s k == 2 || planeState s k == 3

/-! ### Alignment (R76, R77) -/

/-- Condition 1 (R77). -/
def spanAligned (x : Span) : Bool := x.k ≤ 24 && x.base % 2 ^ x.k == 0 && x.base + 2 ^ x.k ≤ 2 ^ 24

/-- An input put into a list in rising order of base. -/
def insertBase (c : InCfg) : List InCfg → List InCfg
  | [] => [c]
  | d :: r => if c.span.base < d.span.base then c :: d :: r else d :: insertBase c r

/-- Inputs in rising order of base. -/
def byBase (l : List InCfg) : List InCfg := l.foldl (fun a c => insertBase c a) []

/-- The first input, in rising order of base, that breaks conditions 1 and 2; `stop` is where the one before it ends. -/
def badInput (out : Span) : Nat → List InCfg → Option InCfg
  | _, [] => none
  | stop, c :: r =>
    if !spanAligned c.span || c.span.base < out.base || spanStop out < spanStop c.span || c.span.base < stop then some c
    else badInput out (spanStop c.span) r

/-- What an E_ORDER_ALIGN record names: the quern, the input (16 for the output) and the offending span. -/
structure AlignFault where
  plane : Nat
  quern : Nat
  detail : Nat
  span : Span
  deriving DecidableEq, Repr

/-- The check of R77 for one quern. DEDUCED (log entry 43). -/
def checkQuern (get : Nat → Nat → Nat) (k q : Nat) : Option AlignFault :=
  let out := spanOf (get (0x2240 + q) 0x03)
  if !spanAligned out then some ⟨k, q, 16, out⟩
  else (badInput out 0 (byBase (inputsFrom get q))).map fun c => ⟨k, q, c.input, c.span⟩

/-- The quern of a plane at the top of the instance: its output stage is the root, or its output goes to a port (R77). -/
def topQuern (s : State) (get : Nat → Nat → Nat) (k : Nat) : Option Nat :=
  let kind := fun (q : Nat) => bitsOf (get (0x2240 + q) 0x02) 15 8
  let qs := upperQuerns s get k
  match qs.find? fun q => kind q == 4 with
  | some q => some q
  | none => qs.find? fun q => kind q == 1 || kind q == 2

/-- The fault that names the top of plane `k`. -/
def topFault (s : State) (get : Nat → Nat → Nat) (k : Nat) : AlignFault :=
  match topQuern s get k with
  | some q => ⟨k, q, 16, spanOf (get (0x2240 + q) 0x03)⟩
  | none => ⟨k, 0xFF, 16, ⟨0, 0⟩⟩

/-- Condition 3 within the instance: the output span of a child quern. -/
def badChild (get : Nat → Nat → Nat) (k q : Nat) : Option AlignFault :=
  (byBase (inputsFrom get q)).findSome? fun c =>
    match c.src with
    | .quern q' => if c.span == spanOf (get (0x2240 + q') 0x03) then none else some ⟨k, q, c.input, spanOf (get (0x2240 + q') 0x03)⟩
    | _ => none

/-- Occupied indices at the inputs of quern `q`. -/
def occupiedAtQuern (get : Nat → Nat → Nat) (q : Nat) : Nat := ((inputsFrom get q).map (·.occ)).sum

/-- The rank of the lowest index at the inputs of quern `q`. -/
def lowestRank (get : Nat → Nat → Nat) (q : Nat) : Nat := (((inputsFrom get q).map (·.rank)).min?).getD 0

/-- Condition 5 as one instance can check it: where it holds the root, exactly one output stage and no parent; else none, and one
output to the parent port. -/
def rootOk (s : State) (get : Nat → Nat → Nat) (k : Nat) : Bool :=
  let out := fun (q : Nat) => get (0x2240 + q) 0x02
  let qs := upperQuerns s get k
  let stages := qs.filter fun q => bitsOf (out q) 15 8 == 4
  let parent := get (0x2210 + k) 0x04
  if get (0x2210 + k) 0x02 == 1 then stages == [get (0x2210 + k) 0x03] && parent == 0xFFFF
  else stages.isEmpty && (qs.filter fun q => out q == parent && (bitsOf parent 15 8 == 1 || bitsOf parent 15 8 == 2)).length == 1

/-- The first fault of plane `k`: every quern by R77, then conditions 3 to 6. DEDUCED (log entry 43). -/
def planeFault (s : State) (get : Nat → Nat → Nat) (k : Nat) : Option AlignFault :=
  let leafs := usedLeafs s get
  let qs := leafs ++ upperQuerns s get k
  match qs.findSome? (checkQuern get k) with
  | some f => some f
  | none =>
    match qs.findSome? (badChild get k) with
    | some f => some f
    | none =>
      match leafs.find? fun q => (spanOf (get (0x2240 + q) 0x03)).k < 4 with
      | some q => some ⟨k, q, 16, spanOf (get (0x2240 + q) 0x03)⟩
      | none =>
        let empty := match topQuern s get k with | some q => occupiedAtQuern get q == 0 | none => true
        if !rootOk s get k || empty then some (topFault s get k) else none

/-- The inputs of plane `k` on this instance that no quern of it feeds: each occupied index below the top quern is behind one of them. -/
def edgeInputs (s : State) (get : Nat → Nat → Nat) (k : Nat) : List InCfg :=
  (usedLeafs s get ++ upperQuerns s get k).flatMap fun q =>
    (inputsFrom get q).filter fun c => match c.src with | .quern _ => false | _ => true

/-- Whether the occupied indices of planes `a` and `b` differ as far as this instance shows (R76, condition 7): an input of `b` below the
top quern of `a`, not within a wider input of `a`, holds another number of them. -/
def setsDiffer (s : State) (get : Nat → Nat → Nat) (a b : Nat) : Bool :=
  match topQuern s get a with
  | none => false
  | some q =>
    let out := spanOf (get (0x2240 + q) 0x03)
    let ins := edgeInputs s get a
    let within := fun (x y : Span) => y.base ≤ x.base && spanStop x ≤ spanStop y
    (edgeInputs s get b).any fun c =>
      within c.span out && !(ins.any fun d => within c.span d.span && d.span != c.span)
        && ((ins.filter fun d => within d.span c.span).map (·.occ)).sum != c.occ

/-- Whether OCCUPIED of plane `k`, whose root is here, is not the number of indices at its inputs. -/
def occupiedWrong (s : State) (get : Nat → Nat → Nat) (k : Nat) : Bool :=
  let n := get (0x2210 + k) 0x06 % 2 ^ 24
  get (0x2210 + k) 0x02 == 1 && ((edgeInputs s get k).map (·.occ)).sum != (if n = 0 then 2 ^ 24 else n)

/-- The first fault of the staged set; condition 7 compares the occupied indices of the active planes as their inputs, OCCUPIED and CARRIER
give them. DEDUCED (log entry 43). -/
def stagedFault (s : State) : Option AlignFault :=
  let ks := (List.range s.params.planes).filter (stagedActive s)
  let get := stagedGet s
  match ks.findSome? (planeFault s get) with
  | some f => some f
  | none =>
    let sets := fun (k : Nat) => (get (0x2210 + k) 0x06 % 2 ^ 24, get (0x2210 + k) 0x07 % 2 ^ 24)
    (ks.find? fun k => sets k != sets (ks.headD 0) || occupiedWrong s get k || ks.any fun j => setsDiffer s get j k).map (topFault s get)

/-! ### Refusals -/

/-- PREPARING has ended: a pending SWAP whose step boundary has passed executes (R425). -/
def prepareOver (s : State) : State := if s.swapDue then post { s with swapDue := false } .microcodeSwapExec else s

/-- EPOCH_STATUS REFUSED with its reason and the SEQ of its record (R400). -/
def refuseEpoch (s : State) (reason seq : Nat) : State :=
  let s := odSet (odSet (odSet s 0x2200 0x03 3) 0x2200 0x04 reason) 0x2200 0x05 seq
  prepareOver { s with setup := { s.setup with preparedPlanes := 0 } }

/-- E_ORDER_ALIGN, and the refusal (R11, R77, R370). -/
def refuseAlign (s : State) (kind obj plane detail : Nat) (x : Span) : State :=
  let r := sumpRec 0x000A 0 kind obj plane 0xFFFFFF detail
    (u64 (odGet s 0x2200 0x01 * 2 ^ 48 + x.k % 32 * 2 ^ 24 + x.base % 2 ^ 24))
  let s := sumpWrite2 s r none
  refuseEpoch s 1 (sumpSeqOf s r).toNat

/-! ### The exchange of R314 -/

/-- The class word with STRICT as given (R312). -/
def classWordWith (s : State) (strict : Nat) : Nat := s.params.classBase.toNat % 2 ^ 64 ||| (strict % 2 * 2 ^ 31)

/-- CLASS_IN_FORCE. -/
def classInForce (s : State) : Nat := classWordWith s (odGet s 0x2000 0x02)

/-- The seed print over the pairs of object `i`: 0x5000 staged, 0x5001 in force (R311). -/
def seedPrint (s : State) (i : Nat) : Nat :=
  (eddy 0 ((List.range 32).flatMap fun n => [odGet s i (1 + n) % 2 ^ 32, odGet s i (1 + n) / 2 ^ 32])).headD 0

/-- The class word and seed print in force once the staged set is applied (R314, R310, R317). DEDUCED (log entry 120). -/
def nextIdentity (s : State) : U64 × U64 :=
  if willDrainAll s (changedPlanes s) then (u64 (classWordWith s (odGet s 0x2000 0x01)), u64 (seedPrint s 0x5000))
  else (u64 (classInForce s), u64 (seedPrint s 0x5001))

/-- A port named as a Q_OUT or PARENT object names it. -/
def portNamed (v : Nat) : Option PortRef :=
  match bitsOf v 15 8 with
  | 1 => some (.lattice (v % 256))
  | 2 => some (.adit (v % 256))
  | _ => none

/-- The port that feeds an input. -/
def portOfSource : Source → Option PortRef
  | .lattice p => some (.lattice p)
  | .adit a => some (.adit a)
  | _ => none

/-- What the instance reports of plane `k` toward its parent: output span, occupied indices and lowest rank. -/
def reportOf (s : State) (get : Nat → Nat → Nat) (k : Nat) : Span × Nat × Nat :=
  match topQuern s get k with
  | some q => (spanOf (get (0x2240 + q) 0x03), occupiedAtQuern get q, lowestRank get q)
  | none => (⟨0, 0⟩, 0, 0)

/-- The values go to the parent on every plane that the epoch configures. The spec gives their bytes on VC 3 no layout: an output.
DESIGN CHOICE (log entry 41). -/
def sendExchange (s : State) : State :=
  let id := nextIdentity s
  forAll ((List.range s.params.planes).filter (stagedActive s)) s fun s k =>
    match portNamed (stagedGet s (0x2210 + k) 0x04) with
    | some p =>
      let r := reportOf s (stagedGet s) k
      if portUp s p then
        emit s (.epochExchange p { plane := k, classWord := id.1, seedPrint := id.2, span := r.1, occupied := r.2.1, rank := r.2.2 })
      else s
    | none => s

/-- The inputs that ports feed on a plane of the staged set: quern, input, port, plane. -/
def stagedPortInputs (s : State) : List (Nat × InCfg × PortRef × Nat) :=
  ((List.range s.params.planes).filter (stagedActive s)).flatMap fun k =>
    (upperQuerns s (stagedGet s) k).flatMap fun q =>
      (byBase (inputsFrom (stagedGet s) q)).filterMap fun c => (portOfSource c.src).map fun p => (q, c, p, k)

/-- What was heard from a port on a plane. -/
def heardFrom (s : State) (p : PortRef) (k : Nat) : Option ExchangeInfo :=
  (s.setup.heard.find? fun h => h.1 == p && h.2.plane == k).map (·.2)

/-- E_CLASS_MISMATCH: 1 class word, 2 seed print; the SEQ of the record (R315, R370). -/
def classRecord (s : State) (sev : Nat) (p : PortRef) (k kind : Nat) (mine child : U64) : State × Nat :=
  let pk := match p with | .lattice _ => 3 | .adit _ => 4
  let r := sumpRec 0x0015 sev pk (portNo p) k 0xFFFFFF kind mine
  let c := sumpRec 0x0015 3 pk (portNo p) k 0xFFFFFF (portNo p) child
  let s := sumpWrite2 s r (some c)
  (s, (sumpSeqOf s r).toNat)

/-- The bits of the class word that are compared (R314). -/
def classMask (strict : Bool) : U64 := if strict then 0xFFFFFF0080000000 else 0xFFFFFFFF80000000

/-- One child's values against the instance's own: the state, and the SEQ of the first record that refuses. -/
def compareChild (r : State × Option Nat) (p : PortRef) (k : Nat) (id : U64 × U64) (h : ExchangeInfo) : State × Option Nat :=
  let strict := id.1.getLsbD 31 || h.classWord.getLsbD 31
  let m := classMask strict
  let note := fun (r : State × Option Nat) (kind : Nat) (mine child : U64) =>
    let (s, seq) := classRecord r.1 (if strict then 0 else 1) p k kind mine child
    if strict then (s, some (r.2.getD seq)) else (cnt s 0x5010 0x04, r.2)
  let r := if id.1 &&& m != h.classWord &&& m then note r 1 id.1 h.classWord else r
  if id.2 != h.seedPrint then note r 2 id.2 h.seedPrint else r

/-- Every child has been heard: spans, counts and ranks first, then class words and seed prints (R76, R113, R314, R315).
DEDUCED (log entry 106). -/
def concludePrepare (s : State) : State :=
  let ins := stagedPortInputs s
  if odGet s 0x2200 0x03 != 1 || ins.any fun i => (heardFrom s i.2.2.1 i.2.2.2).isNone then s
  else
    let bad := ins.find? fun i => match heardFrom s i.2.2.1 i.2.2.2 with
      | some h => (h.span, h.occupied, h.rank) != (i.2.1.span, i.2.1.occ, i.2.1.rank)
      | none => false
    match bad with
    | some (q, c, p, k) => refuseAlign s 2 (quernNo s q) k c.input (((heardFrom s p k).map (·.span)).getD c.span)
    | none =>
      let id := nextIdentity s
      let r := ins.foldl (fun r i => match heardFrom s i.2.2.1 i.2.2.2 with
        | some h => compareChild r i.2.2.1 i.2.2.2 id h
        | none => r) (s, none)
      match r.2 with
      | some seq => refuseEpoch r.1 2 seq
      | none =>
        let s := odSet r.1 0x2200 0x03 2
        prepareOver { s with setup := { s.setup with preparedPlanes := BitVec.ofNat 8 (odGet s 0x2200 0x07) } }

/-! ### EPOCH_CMD (R400) -/

/-- PREPARE. What the parent is to hear goes out as the preparation begins, whatever its own checks then find (R314, log entry 106). -/
def doPrepare (s : State) : Done :=
  if odGet s 0x2200 0x03 != 0 then (s, 5)
  else
    let ch := changedPlanes s
    let s := odSet (odSet (odSet s 0x2200 0x07 (planeBits ch)) 0x2200 0x04 0) 0x2200 0x05 0
    if let some o := s.setup.objectLost.head? then
      let r := sumpRec 0x0018 0 6 0 0xFF 0xFFFFFF 5 (u64 (o.1 * 2 ^ 48 + o.2 * 2 ^ 40))
      let s := sumpWrite2 s r none
      (refuseEpoch s 4 (sumpSeqOf s r).toNat, 0)
    else
      let s := sendExchange (odSet s 0x2200 0x03 1)
      match stagedFault s with
      | some f => (refuseAlign s 2 (if f.quern = 0xFF then 0xFF else quernNo s f.quern) f.plane f.detail f.span, 0)
      | none =>
        if ch.any fun k => epochOf s k == odGet s 0x2200 0x01 then (refuseEpoch s 3 0, 0)
        else (concludePrepare s, 0)

/-- A child's values arrive (R314). DESIGN CHOICE (log entry 41). DEDUCED (log entry 106). -/
def doExchange (p : PortRef) (i : ExchangeInfo) (s : State) : State :=
  let rest := s.setup.heard.filter fun h => !(h.1 == p && h.2.plane == i.plane)
  concludePrepare { s with setup := { s.setup with heard := rest ++ [(p, i)] } }

/-- A child stays silent: `elapsed` in ms since PREPARE. -/
def doPrepareTimeout (elapsed : Nat) (s : State) : State :=
  if odGet s 0x2200 0x03 == 1 && 1000 ≤ elapsed then refuseEpoch s 5 0 else s

/-- ABANDON. -/
def doAbandon (s : State) : Done :=
  if odGet s 0x2200 0x03 == 2 || odGet s 0x2200 0x03 == 3 then
    ({ odSet s 0x2200 0x03 0 with setup := { s.setup with preparedPlanes := 0, heard := [] } }, 0)
  else (s, 5)

/-- Whether a staged tree object may be written now; a write discards a prepared check (R399). -/
def stagedOpen (s : State) : Bool := odGet s 0x2200 0x03 != 1 && odGet s 0x2200 0x03 != 4
/-- A staged tree object has been written. -/
def stagedWritten (s : State) : State :=
  if odGet s 0x2200 0x03 == 2 || odGet s 0x2200 0x03 == 3 then
    { odSet s 0x2200 0x03 0 with setup := { s.setup with preparedPlanes := 0, heard := [] } }
  else s

/-- The layout breaks R71, or STD_ASSIGN cannot use it (R401). -/
def stdRefused (s : State) : Bool :=
  let n := odGet s 0x2201 0x01
  let w := fun (j : Nat) => odGet s 0x2201 (0x02 + j)
  let fill := fun (j : Nat) => odGet s 0x2201 (0x08 + j)
  let js := List.range n
  (js.any fun j => w j < 1 || 24 < w j) || 24 < (js.map w).sum || (js.any fun j => 2 ^ w j < fill j)
    || s.params.taps < fill 0 || (js.drop 1).foldl (fun p j => p * fill j) 1 ≤ odGet s 0x2201 0x0E

/-- nl_std_index of R72. -/
def stdIndex (n c : Nat) (w fill : Nat → Nat) (nf : Nat) : Nat :=
  let r := ((List.range nf).drop 1).foldl (fun (a : Nat × Nat × Nat) j =>
    let (idx, n, shift) := a
    let last := j + 1 == nf
    let digit := if last then n else n % fill j
    (idx ||| digit <<< shift, if last then 0 else n / fill j, shift + w j)) (c, n, w 0)
  r.1

/-- STD_ASSIGN (R401). -/
def doStdAssign (s : State) : Done :=
  if !stagedOpen s then (s, 6)
  else if stdRefused s then (s, 5)
  else
    let w := fun (j : Nat) => odGet s 0x2201 (0x02 + j)
    let fill := fun (j : Nat) => odGet s 0x2201 (0x08 + j)
    let s' := forAll (List.range s.params.taps) s fun a t =>
      odSet a (0x3000 + t) 0x01
        (if t < fill 0 then stdIndex (odGet s 0x2201 0x0E) t w fill (odGet s 0x2201 0x01) else 2 ^ 31)
    (stagedWritten s', 0)

/-! ### APPLY (R422) -/

/-- A tap that holds no index any more. What waits in its queue still gets its one record (R130, R376): an unstarted descriptor is refused,
since its contributor index is no longer the tap's (R121), and a bucket in REPLAN_WAIT ends with its abort. A tap whose context is saved
keeps its drive (R169). DEDUCED (log entry 44). -/
def unbindTap (s : State) (t : Nat) : State :=
  let s := modTap s t fun x => { x with
    state := .unbound, holding := false, arrivals := if x.state == .unbound || x.state == .parked then x.arrivals else 0 }
  forAll (tapAt s t).queue s fun s f =>
    match f.phase with
    | .queued => refuse s t f.id 0x0008 (5 * 256 + 16)
    | .replanWait => endError s t f.id (f.failed.getD noFail)
    | _ => s

/-- The staged binding of tap `t`. A tap that is fenced, or is to be, stays as it is (R162, R171); one in SAVING ends its save first.
DEDUCED (log entry 44). -/
def applyTap (s : State) (t : Nat) : State :=
  let x := tapAt s t
  if x.state == .fenced || x.ctx.fencing then s
  else
    let s := if x.state == .saving then doSaveDone t s else s
    if stagedTap s t then
      modTap s t fun x => { x with state := .active, contrib := odGet s (0x3000 + t) 0x01 % 2 ^ 24, keptDrive := none }
    else unbindTap s t

/-- What quern `q` keeps of plane `k` under the old epoch goes. -/
def clearQuernPlane (s : State) (q k : Nat) : State :=
  let s := quernRebase s q k
  modQuern s q fun x => { x with
    entries := x.entries.filter fun e => e.plane != k
    closed := x.closed.filter fun c => c.plane != k
    waiting := x.waiting.filter fun w => w.2.plane != k
    merges := if isLeaf s q then x.merges else []
    scaleRecs := x.scaleRecs.filter fun r => r.plane != k
    refusedInputs := if isLeaf s q then x.refusedInputs else [] }

/-- A spare that stands in for a healthy quern returns to free (R422). -/
def returnSpare (s : State) (q : Nat) : State :=
  modQuern s q fun x => { x with
    server := match x.server with
      | some n => if n != q && !s.fencedQuerns.contains q then some q else some n
      | none => none }

/-- The SPAN_REPORTs of plane `k`: the output span to the parent, to each child the span expected of it (R277). -/
def sendSpanReports (s : State) (k : Nat) : State :=
  let msg := fun (x : Span) (occ rank : Nat) =>
    ({ code := .spanReport, plane := k, span := x, lastSeg := true, body := .report occ rank } : Message)
  let none_ : Desc := ⟨0, 0, 0, 0, 0, 0, 0, 0⟩
  let s := match parentPort s k with
    | some p => let r := reportOf s (cfg s) k; sendPort s p none_ (msg r.1 r.2.1 r.2.2)
    | none => s
  forAll (upperQuerns s (cfg s) k) s fun s q =>
    forAll (inputsOf s q) s fun s c =>
      match portOfSource c.src with
      | some p => sendPort s p none_ (msg c.span c.occ c.rank)
      | none => s

/-- Seeds, STRICT and PLANE_BALANCE take effect (R310, R317). -/
def applySeeds (s : State) : State :=
  let s := forAll (List.range 32) s fun s n => odSet s 0x5001 (1 + n) (odGet s 0x5000 (1 + n))
  cfgSet (odSet s 0x2000 0x02 (odGet s 0x2000 0x01)) 0x2000 0x03 (odGet s 0x2000 0x03)

/-- A lattice port that the epoch uses and that is ABSENT (R254). -/
def reportAbsent (s : State) (p : Nat) : State :=
  if (latAt s p).state == .absent && !(portPlanes s (.lattice p)).isEmpty then
    linkDownRecord (odSet s (0x4000 + p) 0x13 3) p 3
  else s

/-- The accepted APPLY of the planes `ch`. DEDUCED (log entries 42, 44). -/
def applyEpoch (s : State) (ch : List Nat) : State :=
  let all := drainsAll s
  let sizes := (List.range s.params.planes).map (entrySize s)
  let get := stagedGet s
  let oldQ := fun (k : Nat) => upperQuerns s (cfg s) k
  let s' := forAll (treeKeys s) s fun a key => cfgSet a key.1 key.2 (get key.1 key.2)
  let s := cfgSet s' 0x2200 0x01 (odGet s 0x2200 0x01)
  let s := if all then applySeeds s else s
  let s := if ch.isEmpty then s else forAll (List.range s.params.taps) s applyTap
  let s := forAll ch s fun s k =>
    let s := forAll (List.range s.params.taps) s fun s t => tapRebase s t k
    let qs := (List.range s.params.leafQuerns) ++ oldQ k ++ (upperQuerns s (cfg s) k).filter fun q => !(oldQ k).contains q
    let s := forAll qs s fun s q => returnSpare (clearQuernPlane s q k) q
    let s := odSet (odSet s (0x2210 + k) 0x08 (odGet s 0x2200 0x01)) (0x2210 + k) 0x09 (cfg s (0x2210 + k) 0x01)
    sendSpanReports (planeCnt s k 0x07) k
  let s := if tapped s || (List.range s.params.planes).map (entrySize s) == sizes then s else { s with gallery := { s.gallery with rows := [], collect := [] } }
  let s := { odSet s 0x2200 0x03 4 with setup := { s.setup with preparedPlanes := 0, heard := [] } }
  let s := timeRootCheck s
  let s := forAll (List.range s.params.latticePorts) s reportAbsent
  let s := swapUnused (holdAll s)
  let s := forAll (List.range s.params.taps) s fun s t => kick (rerunTap s t ch) t
  let s := forAll (List.range s.params.latticePorts) s drainPools
  forAll (List.range s.params.aditPorts) s fun s a => postAll s ((List.range 9).map fun k => Instr.landingDeliver a k)

/-- APPLYING is over once nothing of the epoch is in flight on the die: the block has come to rest. DESIGN CHOICE (log entry 42). -/
def applyOver (s : State) : State := if odGet s 0x2200 0x03 = 4 then prepareOver (odSet s 0x2200 0x03 0) else s

/-- The block comes to rest: an APPLY under way is over, and an offer that is due is made. -/
def atRest (s : State) : State := offerNow (applyOver s)

/-- APPLY: CONFLICT where a changed plane is neither drained nor inactive, and, as at PREPARE, where a configuration object is lost
(R354). DEDUCED (log entry 42). -/
def doApply (s : State) : Done :=
  if odGet s 0x2200 0x03 != 2 then (s, 5)
  else if !s.setup.objectLost.isEmpty then (s, 8)
  else
    let ch := (List.range s.params.planes).filter fun k => bitOf (odGet s 0x2200 0x07) k
    if ch.any fun k => planeState s k != 3 && planeState s k != 0 then (s, 8)
    else (applyEpoch s ch, 0)

/-! ### SPAN_REPORT (R277) -/

/-- A report that disagrees: no segment of the epoch from the inputs `qs`, and the epoch's completion is refused. DEDUCED (log entry 46). -/
def badReport (s : State) (port : PortRef) (plane : Nat) (x : Span) (qs : List (Nat × InCfg)) : State :=
  let s := forAll qs s fun s c => modQuern s c.1 fun y => { y with refusedInputs := insertNat c.2.input y.refusedInputs }
  refuseAlign s (match port with | .lattice _ => 3 | .adit _ => 4) (portNo port) plane (portNo port) x

/-- A SPAN_REPORT arrives at a port. DEDUCED (log entry 46). -/
def doSpanReport (port : PortRef) (m : Message) (s : State) : State :=
  let (occ, rank) := match m.body with | .report o r => (o, r) | _ => (0, 0)
  let fed := inputsFedBy s port m.plane
  if fed.isEmpty then
    if parentPort s m.plane == some port then
      let r := reportOf s (cfg s) m.plane
      if (m.span, occ, rank) == r then s else badReport s port m.plane m.span []
    else protoError s port
  else
    let good := fed.filter fun c => (c.2.span, c.2.occ, c.2.rank) == (m.span, occ, rank)
    if good.isEmpty then badReport s port m.plane m.span fed
    else forAll good s fun s c => modQuern s c.1 fun y => { y with refusedInputs := y.refusedInputs.filter fun i => i != c.2.input }

/-! ### Drains (R420, R421, R423) -/

/-- PLANE_CMD DRAIN. -/
def doDrain (s : State) (k : Nat) : State :=
  if planeState s k = 1 then holdAll (odSet s (0x2210 + k) 0x09 2) else s

/-- PLANE_CMD UNDRAIN. -/
def doUndrain (s : State) (k : Nat) : State :=
  if planeState s k = 2 || planeState s k = 3 then
    let s := holdAll (odSet s (0x2210 + k) 0x09 1)
    forAll (List.range s.params.taps) s kick
  else s

/-- Whether a tap lets the plane drain: it holds starts, and every started plane operation has completed or waits for a re-run. -/
def tapDrained (x : Tap) : Bool :=
  x.holding && x.queue.all fun f => f.phase == .queued || f.phase == .replanWait || f.phase == .awaitOriginal
    || !f.desc.isPlane || f.status == 3 || f.status == 1

/-- Whether a flit is one of plane `k` on VC 0 to 2. -/
def ofPlane (k : Nat) (f : Flit) : Bool := f.vc < 3 && f.plane == k

/-- Whether a port holds nothing of plane `k` and has its credits back. -/
def portDrained (s : State) (k : Nat) : PortRef → Bool
  | .lattice p =>
    let x := latAt s p
    !(x.txq.any (ofPlane k)) && !(x.retry.any (ofPlane k)) && planeUsed x k == 0
  | .adit a =>
    let x := aditAt s a
    !(x.txq.any (ofPlane k)) && !(x.ring.any fun f => f.flits.any (ofPlane k))

/-- The ports of plane `k`. -/
def planePorts (s : State) (k : Nat) : List PortRef :=
  ((List.range s.params.latticePorts).map PortRef.lattice ++ (List.range s.params.aditPorts).map PortRef.adit).filter fun p => portHasPlane s p k

/-- The conditions of R421 on the instance. DEDUCED (log entry 45). -/
def drainedNow (s : State) (k : Nat) : Bool :=
  s.taps.all tapDrained && (s.querns.all fun x => x.entries.all fun e => e.plane != k) && (planePorts s k).all (portDrained s k)

/-- PLANE_DRAINED: plane `k` becomes drained once the conditions hold. DEDUCED (log entry 45). -/
def doPlaneDrained (k : Nat) (s : State) : State :=
  if planeState s k = 2 && drainedNow s k then odSet s (0x2210 + k) 0x09 3 else s

/-! ### The commands -/

/-- EPOCH_EXCHANGE (R314). -/
def execEpochExchange (port : PortRef) (i : ExchangeInfo) (s : State) : Host.Outcome State Fault Refusal := withPort s port (doExchange port i)
/-- PREPARE_CHILD_TIMEOUT (R400). -/
def execPrepareChildTimeout (elapsed : Nat) (s : State) : Host.Outcome State Fault Refusal := .next (doPrepareTimeout elapsed s)
/-- SPAN_REPORT (R277). -/
def execSpanReport (port : PortRef) (m : Message) (s : State) : Host.Outcome State Fault Refusal := withPort s port (doSpanReport port m)
/-- PLANE_DRAINED (R421). -/
def execPlaneDrained (plane : Nat) (s : State) : Host.Outcome State Fault Refusal := withPlane s plane (doPlaneDrained plane)

end Sys2Proof.Machine
end

