-- ==== Sys2Proof/Machine/Context.lean ====
section
/-! DEFINITION. A tap's context: SAVE, FENCE, RESTORE and RESTORE_FLAGS (R163 to R171). -/

namespace Sys2Proof.Machine

/-! ### SAVE and FENCE (R163, R164, R171) -/

/-- SAVE, or the save that FENCE begins: accepted in ACTIVE, whatever CTX_ADDR is. DESIGN CHOICE (log entry 115). -/
def beginSave (s : State) (t : Nat) (fencing : Bool) : State :=
  post (modTap s t fun x => { x with
    state := .saving, ctx := { fencing := fencing }, ctxStatus := 1, ctxReason := 0 }) (.ctxSaveDone t)

/-- SAVE. -/
def doSave (s : State) (t : Nat) : Done := if (tapAt s t).state == .active then (beginSave s t false, 0) else (s, 5)

/-- FENCE: the tap ignores its core at once. -/
def doFence (s : State) (t : Nat) : Done :=
  let off := fun (s : State) => modTap s t fun x => { x with ignoreCore := true, ctx := { x.ctx with fencing := true } }
  match (tapAt s t).state with
  | .active => (off (beginSave s t true), 0)
  | .saving => (off s, 0)
  | .parked => (off s, 0)
  | _ => (s, 5)

/-! ### RESTORE (R167 to R170) -/

/-- Word `i` of a free value. DESIGN CHOICE (log entry 3). -/
def freeWord (v i : Nat) : U64 := u64 (v / 2 ^ (64 * i))

/-- The record of an original that only an image names: what the descriptor fixes, and the words `v` for the rest (R127, R134).
DESIGN CHOICE (log entry 48). -/
def restoredRecord (d : Desc) (v : Nat) : Words :=
  let w := (freeWord v 0).toNat
  let f : Flight :=
    { id := 0, desc := d, prepassDone := bitOf w 0, retryRan := bitOf w 1, replaned := bitOf w 2, paused := bitOf w 3
      outRange := bitOf w 4, begun := true, anchor := signedOf (bitsOf w 31 16) 16
      delivered := (List.range 8).filter fun k => bitOf w (32 + k) }
  completionRecord f 0 0 ((List.range 4).map fun i => freeWord v (1 + i))

/-- The duplicate window of an image: records the tap still has, else of the free value `v`. DESIGN CHOICE (log entry 48). -/
def restoredDups (x : Tap) (ds : List Desc) (v : Nat) : List (Desc × Words) :=
  ds.zipIdx.map fun (d, i) =>
    match x.dups.find? fun e => e.1 == d with
    | some e => e
    | none => (d, restoredRecord d (v / 2 ^ (320 * i)))

/-- The REASON for which a restore is refused, in the order of R167; 0 for none. A completion queue that the target may not have (R151)
has no REASON of its own. DEDUCED (log entry 47). -/
def restoreRefusal (s : State) (t : Nat) (i : CtxImage) (flags : Bool) : Option Nat :=
  let x := tapAt s t
  let others := (List.range s.params.taps).filter fun u => u != t
  if !(x.state == .unbound || (x.state == .parked && x.contrib == i.contrib)) then some 0x01
  else if !spanHas (outSpan s (t / 16)) i.contrib then some 0x02
  else if others.any fun u => tapBound (tapAt s u).state && (tapAt s u).contrib == i.contrib then some 0x03
  else if t != i.originTap && i.gtcFinal == 0 then some 0x04
  else if flags && others.any fun u => (tapAt s u).state != .unbound && (tapAt s u).state != .fenced then some 0x05
  else if i.version != 1 then some 0x06
  else if !inRegion s t i.cqBase.toNat (64 * i.cqSize.toNat) 2 then some 0x00
  else none

/-- An input number moved from `a` to `b`. -/
def moveInput (a b i : Nat) : Nat := if i = a then b else i

/-- Pairs by input moved. -/
def moveKeys {α : Type} (a b : Nat) (l : List (Nat × α)) : List (Nat × α) := l.map fun p => (moveInput a b p.1, p.2)

/-- The expected arrivals of an open entry move from input `a` to input `b` (R170). -/
def moveEntry (a b : Nat) (e : Entry) : Entry :=
  { e with
    agrees := moveKeys (32 + a) (32 + b) (moveKeys a b e.agrees), bitmap := e.bitmap.map (moveInput a b), buf := moveKeys a b e.buf
    got := moveKeys a b e.got, opened := e.opened.map (moveInput a b), prepass := moveKeys a b e.prepass
    summaries := moveKeys a b e.summaries, digests := moveKeys a b e.digests }

/-- ACCEPTED of an input moves with it. DEDUCED (log entry 50). -/
def moveAccepted (a b : Nat) (r : RegFile) : RegFile :=
  (List.range 8).foldl (fun r k =>
    RegFile.set 0 (k * 16 + a) 0 (RegFile.set 0 (k * 16 + b) (RegFile.get 0 (k * 16 + a) r) r)) r

/-- The leaf quern of tap `t` takes index `c` at the tap's input; it leaves the input that held it (R170). An index that no input holds
comes to the tap's input with the rank that is staged there. DEDUCED (log entry 50); DESIGN CHOICE (log entry 113). -/
def moveIndex (s : State) (t c : Nat) : State :=
  let g := t / 16
  let b := t % 16
  let o := 0x2240 + g
  let put := fun (s : State) (occ : Nat) => cfgSet (cfgSet s o (0x10 + b) (2 ^ 60 + t * 2 ^ 52 + c)) o (0x20 + b) occ
  match (inputsOf s g).find? fun i => i.span == ⟨c, 0⟩ with
  | none => put s (2 ^ 32 + odGet s o (0x20 + b) % 2 ^ 32)
  | some i =>
    if i.input = b then s
    else
      let occ := cfg s o (0x20 + i.input)
      let s := cfgSet (cfgSet s o (0x10 + i.input) 0) o (0x20 + i.input) 0
      modQuern (put s occ) g fun x => { x with
        entries := x.entries.map (moveEntry i.input b), waiting := moveKeys i.input b x.waiting
        accepted := moveAccepted i.input b x.accepted }

/-- The counters of an image (R165). -/
def putCounters (s : State) (t : Nat) (cs : List (List U32)) : State :=
  forAll cs.zipIdx s fun s (c, k) =>
    let put := fun (s : State) (b i : Nat) => odSet s (0x7080 + t) (b + k) (c.getD i 0).toNat
    if k < 8 then put (put (put (put s 0x01 0) 0x09 1) 0x19 2) 0x11 3 else s

/-- An accepted restore. A FENCE that was pending on the PARKED tap is over; the core stays ignored. DEDUCED (log entry 50); DESIGN
CHOICE (log entry 112). -/
def restoreTap (s : State) (t : Nat) (i : CtxImage) : State :=
  let v := freeVal s
  let o := 0x3000 + t
  let s := putCounters (useFree s) t i.counters
  let s := odSet (odSet (odSet (odSet (odSet (odSet s o 0x05 i.posted.toNat) o 0x06 i.cqTail.toNat) o 0x07 i.cqHead.toNat)
    o 0x08 i.cqBase.toNat) o 0x09 i.cqSize.toNat) o 0x03 i.sluiceMember.toNat
  let s := if i.originTap = t then s
           else modTap s i.originTap fun x => { x with keptDrive := some 0xFFFF, arrivals := 0 }
  let s := modTap s t fun x =>
    let n := x.nextId
    { x with
      state := .active, contrib := i.contrib, stage := i.stage, busyCount := i.busyCount, arrivals := i.sluiceDrive &&& i.sluiceMember
      keptDrive := none, dups := restoredDups x i.dupWindow v
      queue := x.queue ++ i.unstarted.zipIdx.map fun (d, j) => { id := n + j, desc := d }
      nextId := n + i.unstarted.length, ctx := {}, ctxStatus := 2, ctxReason := 0, holding := false }
  let s := moveIndex s t i.contrib
  kick (sluiceCheck (holdCheck s t false)) t

/-- RESTORE, and RESTORE_FLAGS where `flags`. DESIGN CHOICE (log entry 48). -/
def doRestore (s : State) (t : Nat) (i : CtxImage) (flags : Bool) : State :=
  match restoreRefusal s t i flags with
  | some r => modTap s t fun x => { x with ctxStatus := 3, ctxReason := r }
  | none =>
    let s := restoreTap s t i
    if flags then flagsWrite s i.flags else s

/-- A descriptor of eight words of a free value, from word `i`. -/
def freeDesc (v i : Nat) : Desc := Desc.ofWords fun j => freeWord v (i + j)

/-- An image of which nothing is known, from the free value `v`. DESIGN CHOICE (log entry 49). -/
def freeImage (v : Nat) : CtxImage :=
  let w := fun (i : Nat) => (freeWord v i).toNat
  { version := w 0 % 65536, originTap := bitsOf (w 0) 23 16, contrib := bitsOf (w 0) 55 32, treeEpoch := w 1 % 65536
    gtcSaved := freeWord v 2, gtcFinal := freeWord v 3, sluiceMember := BitVec.ofNat 16 (w 4), sluiceDrive := BitVec.ofNat 16 (w 4 / 2 ^ 16)
    posted := u32 (w 5), busyCount := BitVec.ofNat 16 (w 5 / 2 ^ 32), cqTail := u32 (w 6), cqHead := u32 (w 6 / 2 ^ 32)
    cqBase := freeWord v 7, cqSize := u32 (w 8)
    counters := (List.range 8).map fun k => (List.range 4).map fun j => u32 (w (9 + 4 * k + j))
    stage := freeDesc v 41, flags := BitVec.ofNat 4096 (v / 2 ^ (64 * 49)), inFlight := []
    unstarted := (List.range (w 113 % 65)).map fun j => freeDesc v (115 + 8 * j)
    dupWindow := (List.range (w 114 % 513)).map fun j => freeDesc v (635 + 8 * j) }

/-- The image at CTX_ADDR of tap `t`: one that a tap has written there, else unknown. DESIGN CHOICE (log entry 49). -/
def imageAt (s : State) (t : Nat) : CtxImage :=
  let a := odGet s (0x3000 + t) 0x0C
  ((List.range s.params.taps).findSome? fun u =>
    if odGet s (0x3000 + u) 0x0C = a then (tapAt s u).ctx.image else none).getD (freeImage (freeVal s))

/-! ### The commands -/

/-- CTX_SAVE_DONE (R163). -/
def execCtxSaveDone (t : Nat) (s : State) : Host.Outcome State Fault Refusal := withTap s t (doSaveDone t)

end Sys2Proof.Machine
end

