-- ==== Sys2Proof/Machine/Query.lean ====
section
/-! DEFINITION. The Gallery's readback and the control of capture (R343 to R345). -/

namespace Sys2Proof.Machine

/-- Values put into consecutive subindices. -/
def odPutList (s : State) (i sub : Nat) (vs : List Nat) : State := forAll vs.zipIdx s fun s (v, j) => odSet s i (sub + j) v

/-- The row of Q_STEP. -/
def queryRow (s : State) : Option GalRow := s.gallery.rows.find? fun r => r.step.toNat == odGet s 0x5041 0x01

/-- The entry of Q_BUCKET and Q_SEL in a row. -/
def queryEntry (s : State) (r : GalRow) : Option GalEntry :=
  let sel := odGet s 0x5041 0x03
  r.entries.find? fun e =>
    e.bucket == odGet s 0x5041 0x02 && e.sel == sel % 2 ^ 24 && (tapped s || e.plane == bitsOf sel 26 24)

/-- The input digests of an entry in the two readback ranges. -/
def putInputs (s : State) (ds : List Nat) : State :=
  let at_ := fun (i : Nat) => ds.getD i 0
  odPutList (odPutList s 0x5043 1 ((List.range 128).map at_)) 0x5044 1 ((List.range 128).map fun i => at_ (128 + i))

/-- FETCH of an entry. -/
def doFetchEntry (s : State) : State :=
  match queryRow s with
  | none => odSet s 0x5041 0x05 3
  | some r =>
    match queryEntry s r with
    | none => odSet s 0x5041 0x05 2
    | some e =>
      let s := galAccess s e.plane false
      let n := if tapped s then 4 else 8
      let s := odPutList s 0x5042 1 ((List.range n).map fun i => (e.words.getD i 0).toNat)
      odSet (if tapped s then s else putInputs s e.inputs) 0x5041 0x05 1

/-- FETCH of a row header. -/
def doFetchRow (s : State) : State :=
  match queryRow s with
  | none => odSet s 0x5041 0x05 3
  | some r => odSet (odPutList s 0x5045 1 [r.step.toNat, r.stepEddy, r.entries.length]) 0x5041 0x05 1

/-- CLEAR. -/
def doGalleryClear (s : State) : State := { s with gallery := { s.gallery with rows := [] } }

/-- CAP_CMD ARM: the table is written anew. DEDUCED (log entry 53). -/
def doCapArm (s : State) : State := odSet { s with gallery := { s.gallery with capture := [], capRuns := [] } } 0x5050 0x04 1

/-- CAP_CMD DISARM. DEDUCED (log entry 53). -/
def doCapDisarm (s : State) : State :=
  if odGet s 0x5050 0x04 = 1 then odSet { s with gallery := { s.gallery with capture := [], capRuns := [] } } 0x5050 0x04 0 else s

end Sys2Proof.Machine
end

