-- ==== Sys2Proof/Machine/Power.lean ====
section
/-! DEFINITION. Fabric clocks (R408, R409), power profiles (R410, R411, R429) and Dormant (R412 to R415). -/

namespace Sys2Proof.Machine

/-! ### Work that waited -/

/-- Flits held in pools and landings are tried again, and every tap is offered its next start. -/
def resumeWork (s : State) : State :=
  let s := forAll (List.range s.params.latticePorts) s drainPools
  let s := forAll (List.range s.params.aditPorts) s fun s a => postAll s ((List.range 9).map fun k => Instr.landingDeliver a k)
  forAll (List.range s.params.taps) s kick

/-- Whether plane `k` has an open entry, or a message or flit that waits. -/
def planeBusy (s : State) (k : Nat) : Bool :=
  (s.querns.any fun q => (q.entries.any fun e => e.plane == k) || q.waiting.any fun w => w.2.plane == k)
    || (s.lattice.any fun x => x.heldFlits.any fun f => f.plane == k)
    || (s.adits.any fun x => x.landing.any fun f => !f.service && f.plane == k)

/-- Whether a tap keeps the common domain running. -/
def tapBusy (x : Tap) : Bool := !x.queue.isEmpty || x.slots.any id

/-- FABRIC_CLOCK_STOP: `elapsed` in µs for which the domain has been idle. -/
def doClockStop (d : Option Nat) (elapsed : Nat) (s : State) : State :=
  if elapsed < 10 then s
  else
    match d with
    | some k =>
      if planeBusy s k then s
      else { s with power := { s.power with planes := s.power.planes &&& ~~~((1 : BitVec 8) <<< k) } }
    | none =>
      if s.power.planes != 0 || !s.power.starting.isEmpty || s.taps.any tapBusy then s
      else { s with power := { s.power with common := false } }

/-! ### Frequency and profiles (R409 to R411, R429) -/

/-- The ceiling of a profile, MHz. -/
def profileCeiling (v : Nat) : Nat := match v with | 1 => 1000 | 2 => 800 | _ => 1100

/-- Whether the part offers a profile: LANES of the class word. -/
def profileOffered (s : State) (v : Nat) : Bool := v = 0 || (v ≤ 2 && s.params.classBase.getLsbD (32 + v))

/-- The frequency in force (R409). -/
def setClock (s : State) : State :=
  { s with power := { s.power with
      mhz := min (min (odGet s 0x7100 0x03) s.power.ceiling) (if s.power.throttle then 600 else 1100) } }

/-- FCLK_REQ takes a value. -/
def doFclk (s : State) (v : Nat) : Done :=
  if v < 600 || 1100 < v || v % 25 != 0 then (s, 5) else (setClock (odSet s 0x7100 0x03 v), 0)

/-- nl_vid_req asks for the supply of a profile; the acknowledgement drops. DESIGN CHOICE (log entry 51). -/
def askSupply (s : State) (v : Nat) : State :=
  let c := Config.vidCode v
  emit { s with power := { s.power with vidReq := c, vidAck := false } } (.vidReq c)

/-- PROFILE_REQ takes a value: on a fall the clock goes first, on a rise the supply (R411, R429). It replaces a change under way: a rise is
one against the ceiling in force. -/
def doProfileReq (s : State) (v : Nat) : Done :=
  if !profileOffered s v then (s, 5)
  else
    let s := odSet s 0x7100 0x01 v
    if v = s.power.changing.getD (odGet s 0x7100 0x02) then (s, 0)
    else
      let up := s.power.ceiling < profileCeiling v
      let p := { s.power with changing := some v, rising := up }
      let p := if up then p else { p with ceiling := min p.ceiling (profileCeiling v) }
      (askSupply (setClock { s with power := p }) v, 0)

/-- VID_ACK: the supply has settled; the clock of a rise follows it. -/
def doVidAck (s : State) : State :=
  let p := { s.power with vidAck := true }
  match p.changing with
  | some v => setClock { s with power := if p.rising then { p with ceiling := profileCeiling v } else p }
  | none => { s with power := p }

/-- PROFILE_CHANGE_DONE: the last plane root has changed L. -/
def doProfileDone (s : State) : State :=
  match s.power.changing with
  | none => s
  | some v =>
    if s.power.rising && !s.power.vidAck then s
    else
      let s := setClock { s with power := { s.power with changing := none, rising := false, ceiling := profileCeiling v } }
      if odGet s 0x7100 0x02 = v then s
      else
        let n := odGet s 0x7100 0x08
        let e := (gtcNow s).toNat % 2 ^ 56 * 2 ^ 8 + v % 16
        odSet (odSet (odSet s 0x7100 0x02 v) 0x7101 (1 + n) e) 0x7100 0x08 ((n + 1) % 64)

/-- THROTTLE_RISE. DESIGN CHOICE (log entry 60). -/
def doThrottleRise (s : State) : State :=
  if s.power.throttle then s else setClock (cnt { s with power := { s.power with throttle := true } } 0x7100 0x09)

/-- THROTTLE_FALL. DESIGN CHOICE (log entry 60). -/
def doThrottleFall (s : State) : State := setClock { s with power := { s.power with throttle := false } }

/-! ### Dormant (R412 to R414) -/

/-- POWER_STATE. -/
def PowerState.no : PowerState → Nat
  | .running => 0 | .entering => 1 | .dormant => 2 | .waking => 3

/-- Whether a lattice port lets the instance sleep. -/
def latSleepOk (x : LatPort) : Bool :=
  match x.state with | .active => latQuietOk x | .recovering => false | _ => true

/-- Whether an adit port lets the instance sleep. -/
def aditSleepOk (x : AditPort) : Bool :=
  match x.state with | .active => aditQuietOk x | .recovering => false | _ => true

/-- The conditions of R412. DEDUCED (log entry 52). -/
def dormantOk (s : State) : Bool :=
  !(s.taps.any tapBusy) && s.handoverQ.isEmpty && (s.querns.all fun q => q.entries.isEmpty)
    && s.lattice.all latSleepOk && s.adits.all aditSleepOk
    && odGet s 0x2200 0x03 != 1 && odGet s 0x2200 0x03 != 4
    && ((List.range s.params.planes).all fun k => planeState s k != 2) && odGet s 0x7F00 0x0A != 4 && !s.swapping
    && !(s.held.any fun h => match h.1 with | .clock _ => true | _ => false)

/-- DORMANT_CMD ENTER. -/
def doEnter (s : State) : State :=
  if s.power.state == .running then post { s with power := { s.power with state := .entering } } .dormantEntry else s

/-- AUTO_DORMANT_EXPIRY: `elapsed` in µs for which the idle conditions have held. -/
def doAutoDormant (elapsed : Nat) (s : State) : State :=
  let n := odGet s 0x7100 0x07
  if n = 0 || elapsed < n || !dormantOk s then s else doEnter s

/-- DORMANT_ENTRY: clocks stop, ports go QUIET. DEDUCED (log entry 52). -/
def doDormantEntry (s : State) : State :=
  if s.power.state == .entering && dormantOk s then
    { s with
      power := { s.power with state := .dormant, common := false, planes := 0, starting := [] }
      lattice := s.lattice.map fun x => if x.state == .active then { x with state := .quiet } else x
      adits := s.adits.map fun x => if x.state == .active then { x with state := .quiet } else x }
  else s

/-! ### The commands -/

/-- A meaning that needs a clock domain. -/
def withDomain (s : State) (d : Option Nat) (f : State → State) : Host.Outcome State Fault Refusal :=
  match d with
  | some k => withPlane s k f
  | none => .next (f s)

/-- FABRIC_CLOCK_STOP (R408). -/
def execFabricClockStop (plane : Option Nat) (elapsed : Nat) (s : State) : Host.Outcome State Fault Refusal :=
  withDomain s plane (doClockStop plane elapsed)
/-- PROFILE_CHANGE_DONE (R411). -/
def execProfileChangeDone (s : State) : Host.Outcome State Fault Refusal := .next (doProfileDone s)
/-- THROTTLE_RISE (R409). -/
def execThrottleRise (s : State) : Host.Outcome State Fault Refusal := .next (doThrottleRise s)
/-- THROTTLE_FALL (R409). -/
def execThrottleFall (s : State) : Host.Outcome State Fault Refusal := .next (doThrottleFall s)
/-- VID_ACK (R429). -/
def execVidAck (s : State) : Host.Outcome State Fault Refusal := .next (doVidAck s)
/-- AUTO_DORMANT_EXPIRY (R412). -/
def execAutoDormantExpiry (elapsed : Nat) (s : State) : Host.Outcome State Fault Refusal := .next (doAutoDormant elapsed s)
/-- DORMANT_ENTRY (R412). -/
def execDormantEntry (s : State) : Host.Outcome State Fault Refusal := .next (doDormantEntry s)

end Sys2Proof.Machine
end

