-- ==== Sys2Proof/Machine/Microcode.lean ====
section
/-! DEFINITION. The microcode slots (R406) and the swap (R425). -/

namespace Sys2Proof.Machine

/-- Bytes of a slot. -/
def ucodeBytes : Nat := 2 ^ 18

/-- The slot that is not running: 0 A, 1 B. -/
def idleSlot (s : State) : Nat := if odGet s 0x7F00 0x01 = 0 then 1 else 0

/-- LOAD_STATUS. -/
def loadStatus (s : State) : Nat := odGet s 0x7F00 0x0A

/-- VALID with bit `n` as given. -/
def setValid (s : State) (n : Nat) (v : Bool) : State :=
  let w := odGet s 0x7F00 0x04 % 4
  odSet s 0x7F00 0x04 (if v then w ||| 2 ^ n else w &&& (3 - 2 ^ n))

/-- BEGIN: the idle slot becomes invalid. -/
def doBegin (s : State) : Done :=
  if loadStatus s = 4 then (s, 5)
  else
    let n := idleSlot s
    (odSet (odSet (odSet (setValid s n false) 0x7F00 (0x02 + n) 0) 0x7F00 0x07 0) 0x7F00 0x0A 1, 0)

/-- LOAD_DATA: 256 bytes at LOAD_OFFSET. -/
def doLoadData (s : State) (bs : List Byte) : Done :=
  let off := odGet s 0x7F00 0x07
  if loadStatus s != 1 || odGet s 0x7F00 0x05 < off + 256 then (s, 5)
  else (odSet { s with ucode := s.ucode.writeBytes (idleSlot s * ucodeBytes + off) (bs.take 256) } 0x7F00 0x07 (off + 256), 0)

/-- SEAL: the CRC-64 of the image against IMAGE_CRC. Refused only while a swap is pending. DEDUCED (log entry 54). -/
def doSeal (s : State) : Done :=
  if loadStatus s = 4 then (s, 5)
  else
    let n := idleSlot s
    let bs := s.ucode.readBytes (n * ucodeBytes) (odGet s 0x7F00 0x05)
    if (crc64 bs).toNat = odGet s 0x7F00 0x06 then
      (odSet (odSet (setValid s n true) 0x7F00 (0x02 + n) (bytesToNat (s.ucode.readBytes (n * ucodeBytes) 4))) 0x7F00 0x0A 2, 0)
    else (odSet s 0x7F00 0x0A 3, 0)

/-- SWAP: pending where the idle slot is valid, and the running one is not lost (R354). It executes at once where no step boundary can
come: Dormant, or no active plane. DEDUCED (log entry 54). -/
def doSwap (s : State) : Done :=
  if odGet s 0x7F00 0x04 % 4 != 3 then (s, 5)
  else
    let s := odSet s 0x7F00 0x0A 4
    (if s.power.state == .dormant || (activePlanes s).isEmpty then post s .microcodeSwapExec else s, 0)

/-- CANCEL. DEDUCED (log entry 54). -/
def doCancel (s : State) : State :=
  if loadStatus s = 4 then odSet { s with swapDue := false } 0x7F00 0x0A 2 else s

/-- MICROCODE_SWAP_EXEC: a step boundary of a pending swap. While an epoch is prepared or applied the swap waits. -/
def doSwapExec (s : State) : State :=
  if loadStatus s != 4 || s.swapping then s
  else if odGet s 0x2200 0x03 = 1 || odGet s 0x2200 0x03 = 4 then { s with swapDue := true }
  else { s with swapping := true, swapDue := false }

/-- Records queued during a swap are written, in order. DEDUCED (log entry 101). -/
def flushSump (s : State) : State :=
  let q := s.sump.queued
  forAll q { s with swapping := false, sump := { s.sump with queued := [] } } fun s r => sumpNow s r.1 r.2

/-- MICROCODE_SWAP_EXEC (R425). -/
def execMicrocodeSwapExec (s : State) : Host.Outcome State Fault Refusal := .next (doSwapExec s)

end Sys2Proof.Machine
end

