-- ==== Sys2Proof/Machine/Resets.lean ====
section
/-! DEFINITION. Power-on, block, plane, port and tap resets (R384, R416 to R419, R427). -/

namespace Sys2Proof.Machine

/-! ### Objects (R384) -/

/-- Whether a subindex lies between two others. -/
def between (a b sub : Nat) : Bool := a ≤ sub && sub ≤ b

/-- Whether an object is retained. -/
def retained (i sub : Nat) : Bool :=
  (i = 0x1100 && (sub = 1 || sub = 2 || between 6 0x0A sub))
    || (inIdx i 0x4000 64 && (sub = 3 || sub = 4 || between 0x0A 0x0C sub || sub = 0x10 || sub = 0x11))
    || (inIdx i 0x4100 16 && (sub = 3 || sub = 4 || between 7 0x15 sub))
    || i = 0x4110 || i = 0x6020 || (i = 0x6040 && (sub = 6 || between 8 0x0B sub)) || i = 0x6041 || i = 0x6042
    || (i = 0x7010 && (sub = 1 || sub = 2)) || i = 0x7F00

/-- A value without the bits that the object reserves (R3). -/
def keepBits (s : State) (i sub v : Nat) : Nat :=
  let p := s.params
  if i = 0x1100 && sub = 2 then v % 8
  else if inIdx i 0x2210 p.planes && sub = 5 then v % 2 ^ 29
  else if inIdx i 0x2240 p.querns && sub = 3 then v % 2 ^ 29
  else if inIdx i 0x2240 p.querns && between 0x10 0x1F sub then bitsOf v 63 51 * 2 ^ 51 + v % 2 ^ 29
  else if inIdx i 0x3000 p.taps && sub = 1 then bitsOf v 31 31 * 2 ^ 31 + v % 2 ^ 24
  else if inIdx i 0x3100 256 && sub = 3 then v % 32
  else if inIdx i 0x4000 p.latticePorts && sub = 0x0A then v % 2 ^ 16
  else if inIdx i 0x4100 p.aditPorts && sub = 0x0A then v % 2 ^ 17
  else if i = 0x5041 && sub = 3 then v % 2 ^ 27
  else if i = 0x7F00 && sub = 4 then v % 4
  else v

/-- The objects of a register file that pass a test. -/
def keepObjects (r : RegFile) (p : Nat → Nat → Bool) : RegFile := r.filter fun x => p (x.1 / 256) (x.1 % 256)

/-- Objects that pass the test return to their defaults. -/
def defaultObjects (s : State) (p : Nat → Nat → Bool) : State := { s with od := keepObjects s.od fun i sub => !p i sub }

/-! ### Block reset (R416, R417, R419) -/

/-- Tiles that the taps hold go back to their cores. -/
def releaseAllTiles (s : State) : State :=
  forAll (List.range s.params.taps) s fun s t =>
    forAll (tapAt s t).queue s fun s f =>
      forAll f.drain.held s fun s i => emit s (.tileRelease t (firstTile f.desc + i))

/-- A lattice port during a block reset. DEDUCED (log entry 55). -/
def latHeld (x : LatPort) : LatPort :=
  { latRestart x with state := .disabled, train := 0, lanes := List.replicate 8 {}, txq := [], closedAt := [], fresh := true, phase := 0 }

/-- An adit port during a block reset. -/
def aditHeld (x : AditPort) : AditPort :=
  { aditClear x with state := .disabled, txq := [], closedFrames := [], closedAt := [], peerSeen := false, peerSession := none
                     session := 0, waitMsgs := [] }

/-- A block reset begins; `how` is LAST_RESET. PROFILE returns to 0, and the clock follows the supply up (R429). DEDUCED (log entries 54, 55, 56). -/
def blockReset (s : State) (how : Nat) : State :=
  let s := flushSump (releaseAllTiles s)
  let swap := odGet s 0x7F00 0x0A = 4
  let code := Config.vidCode 0
  let toFull := odGet s 0x7100 0x02 != 0 || s.power.changing.isSome
  let p : Power := { throttle := s.power.throttle }
  let s := { s with
    od := keepObjects s.od retained, inForce := []
    taps := List.replicate s.params.taps { dog := { limit := odGet s 0x6020 0x05 } }
    querns := (List.range s.params.positions).map fun q => { server := some q }
    fencedQuerns := [], flags := 0, blanking := 0
    lattice := s.lattice.map latHeld, adits := s.adits.map aditHeld
    launch := .idle, gallery := {}, lock := {}, inject := {}, setup := {}
    power :=
      if toFull then { p with vidReq := code, changing := some 0, rising := s.power.ceiling < p.ceiling, ceiling := s.power.ceiling }
      else { p with vidReq := s.power.vidReq, vidAck := s.power.vidAck }
    swapping := false, swapDue := false, resetting := true
    handoverQ := [], handoverSeq := 0, offerDue := false, held := s.held.filter fun h => h.1 == .engine, onDie := [] }
  let s := setClock (if toFull then emit s (.vidReq code) else s)
  let s := if swap then odSet s 0x7F00 0x0A 2 else s
  odSet s 0x7102 0x06 how

/-- The ports after a block reset, by their retained enables: full training, a new session. -/
def portsAfterReset (s : State) : State :=
  let s := { s with lattice := s.lattice.map fun x => if x.enabled then { x with state := .absent } else x }
  forAll (List.range s.params.aditPorts) s fun s a =>
    let x := aditAt s a
    if !x.enabled then s
    else if x.linkUp then enterHello s a
    else aditState s a .absent

/-- POWER_ON_RESET: every state, with the straps sampled (R427). The commands that wait and what has been driven stay. -/
def doPowerOn (node : U32) (i3c : BitVec 7) (s : State) : State :=
  let z := State.powerOn s.params node i3c
  { z with pending := s.pending, outs := s.outs, freeCount := s.freeCount, resetting := true
           testAcc := { mode := s.testAcc.mode }
           power := { throttle := s.power.throttle, mhz := if s.power.throttle then 600 else 1000 }
           lattice := z.lattice.map fun x => { x with state := .disabled }
           adits := (z.adits.zip s.adits).map fun (x, y) => { x with state := .disabled, linkUp := y.linkUp } }

/-! ### Plane reset (R417, R418) -/

/-- An ABORT goes down plane `m.plane` from quern `q`, through every quern of the instance. -/
def abortTree (m : Message) : Nat → State → Nat → State
  | 0, s, _ => s
  | fuel + 1, s, q =>
    let s := discardKey s q m
    forAll (inputsOf s q) s fun s c =>
      match c.src with
      | .quern q' => abortTree m fuel s q'
      | _ => quernDown s q c m

/-- The keys open on plane `k`, with the first quern that holds each. -/
def openKeys (s : State) (k : Nat) : List (Nat × Entry) :=
  (List.range s.params.positions).foldl (fun l q =>
    (quernAt s q).entries.foldl (fun l e => if e.plane == k && !(l.any fun x => sameEntry e x.2) then l ++ [(q, e)] else l) l) []

/-- One open bucket of a plane that is reset: its failure goes toward the plane root, or from it down the plane (R132).
DEDUCED (log entry 57). -/
def abortKey (s : State) (q : Nat) (e : Entry) : State :=
  let (s, f) := failure s 0x0001 2 (quernNo s q) e.plane 0xFFFFFF 0xFF 0 e.bucket e.step
  let m := entryAbort e f
  let top := topQuern s (cfg s) e.plane
  match top with
  | some p => if isRoot s p e.plane then abortTree m (quernDepth s) s p else quernUp s p m
  | none => s

/-- The plane's configuration, in force and staged, its counters and its waiting work go. DEDUCED (log entry 57). -/
def clearPlane (s : State) (k : Nat) : State :=
  let qs := upperQuerns s (cfg s) k
  let mine := fun (i : Nat) => i = 0x2210 + k || (0x2240 ≤ i && qs.contains (i - 0x2240))
    || (inIdx i 0x2240 s.params.positions && !isLeaf s (i - 0x2240) && odGet s i 0x01 == k)
  let inMine := fun (i : Nat) => i = 0x2210 + k || (0x2240 ≤ i && qs.contains (i - 0x2240))
  let s := forAll (List.range s.params.positions) s fun s q => clearQuernPlane s q k
  let s := { defaultObjects s (fun i _ => mine i) with inForce := keepObjects s.inForce fun i _ => !inMine i }
  let s := forAll (List.range s.params.taps) s fun s t =>
    odSet (tapRebase s t k) (0x7080 + t) (0x19 + k) 0
  let s := forAll (List.range s.params.latticePorts) s fun s p => modLat s p fun x => { x with credits := RegFile.set 0 k 0 x.credits }
  forAll (List.range s.params.aditPorts) s fun s a => modAdit s a fun x => { x with credits := RegFile.set 0 k 0 x.credits }

/-- A reset of plane `k`. DEDUCED (log entry 57). -/
def resetPlane (s : State) (k : Nat) : State :=
  let s := forAll (openKeys s k) s fun s x => abortKey s x.1 x.2
  let s := timeRootCheck (clearPlane s k)
  let s := { s with setup := { s.setup with preparedPlanes := s.setup.preparedPlanes &&& ~~~((1 : BitVec 8) <<< k) } }
  swapUnused (resumeWork (holdAll s))

/-- RESET_PLANES. -/
def doResetPlanes (s : State) (v : Nat) : State :=
  forAll ((List.range s.params.planes).filter fun k => bitOf v k) s resetPlane

/-! ### Port and tap resets (R416, R417) -/

/-- RESET_LATTICE: for a port that carries no plane. -/
def doResetLattice (s : State) (p : Nat) : Done :=
  if s.params.latticePorts ≤ p then (s, 5)
  else if !(portPlanes s (.lattice p)).isEmpty then (s, 8)
  else
    let s := defaultObjects s fun i sub => i = 0x4000 + p && !retained i sub
    (modLat s p fun x => { latHeld x with state := if x.enabled then .absent else .disabled }, 0)

/-- RESET_ADIT. -/
def doResetAdit (s : State) (a : Nat) : Done :=
  if s.params.aditPorts ≤ a then (s, 5)
  else if !(portPlanes s (.adit a)).isEmpty then (s, 8)
  else
    let s := modAdit (defaultObjects s fun i sub => i = 0x4100 + a && !retained i sub) a aditHeld
    let x := aditAt s a
    (if !x.enabled then s else if x.linkUp then enterHello s a else aditState s a .absent, 0)

/-- RESET_TAP: for a tap that is UNBOUND or FENCED. The flags are the instance's. -/
def doResetTap (s : State) (t : Nat) : Done :=
  if s.params.taps ≤ t then (s, 5)
  else
    match (tapAt s t).state with
    | .unbound => (go s, 0)
    | .fenced => (go s, 0)
    | _ => (s, 8)
where
  /-- The accepted reset. -/
  go (s : State) : State :=
    let s := defaultObjects s fun i sub => i = 0x3000 + t || (i = 0x7080 + t && sub ≤ 0x20)
    sluiceCheck (holdCheck (modTap s t fun _ => { mirror := s.flags, dog := { limit := odGet s 0x6020 0x05 } }) t false)

/-! ### The commands -/

/-- POWER_ON_RESET (R427). -/
def execPowerOnReset (nodeId : U32) (i3cAddr : BitVec 7) (s : State) : Host.Outcome State Fault Refusal := .next (doPowerOn nodeId i3cAddr s)
/-- BLOCK_RESET_PIN (R427). -/
def execBlockResetPin (s : State) : Host.Outcome State Fault Refusal := .next (blockReset s 2)

end Sys2Proof.Machine
end

