-- ==== Sys2Proof/Machine/Dictionary.lean ====
section
/-! DEFINITION. The object dictionary (R380 to R390, R399 to R406, R438): what a read returns, and what a write checks and does. -/

namespace Sys2Proof.Machine

/-! ### What a read returns (R382, R388, R402) -/

/-- The quern position that quern `n` serves. -/
def positionOf (s : State) (n : Nat) : Option Nat :=
  (List.range s.params.positions).find? fun q => (quernAt s q).server == some n

/-- QUERN_STATE (R379). A quern that no configuration in force uses is power-gated (R21); Dormant changes no object (R414).
DEDUCED (log entry 88). -/
def quernState (s : State) (n : Nat) : Nat :=
  if s.fencedQuerns.contains n then 4
  else
    match positionOf s n with
    | some q =>
      if (inputsOf s q).isEmpty || (planesOf s q).isEmpty then 0
      else if s.params.positions ≤ n then 3 else 1
    | none => if s.params.positions ≤ n && !(s.querns.any fun x => x.switching == some n) then 2 else if s.params.positions ≤ n then 3 else 0

/-- STANDS_FOR: the position that a spare holds. -/
def standsFor (s : State) (n : Nat) : Nat := if n < s.params.positions then 0xFF else (positionOf s n).getD 0xFF

/-- KIND (R26, R402). -/
def quernKind (p : Sys2Proof.Config.Params) (n : Nat) : Nat :=
  if n < p.positions then (if p.taps = 0 then 2 else if n < p.leafQuerns then 0 else 1)
  else if p.taps = 0 then 5
  else if p.spares = 1 then 6
  else if n = p.positions then 3 else 4

/-- The configuration object that stands for an object: that of a spare reads as that of its position (R402). -/
def configIndex (s : State) (i : Nat) : Nat :=
  if inIdx i (0x2240 + s.params.positions) s.params.spares then
    match positionOf s (i - 0x2240) with
    | some q => 0x2240 + q
    | none => i
  else i

/-- A tree object by VIEW (R399). -/
def treeView (s : State) (i sub : Nat) : Nat :=
  let i := configIndex s i
  let get := if odGet s 0x2200 0x06 = 1 then cfg s else stagedGet s
  if inIdx i 0x2210 s.params.planes && (sub = 8 || sub = 9) then odGet s i sub
  else if inIdx i 0x2240 s.params.querns && sub = 4 then (inputsFrom get (i - 0x2240)).length
  else get i sub

/-- Four words of a sump record from its subindex. -/
def recWord (r : Option SumpRec) (j : Nat) : Nat :=
  match r with
  | none => 0
  | some r => ([r.w0, r.w1, r.w2, r.w3].getD j 0).toNat

/-- Objects of the sump (R379). -/
def sumpView (s : State) (sub : Nat) : Nat :=
  let recs := s.sump.recs
  if sub = 1 then ((recs.head?.map (·.seq)).getD s.sump.nextSeq).toNat
  else if sub = 2 then (s.sump.nextSeq - 1).toNat
  else if between 4 7 sub then recWord (recs.find? fun r => r.seq.toNat == odGet s 0x7000 3) (sub - 4)
  else if between 8 0x0B sub then recWord s.sump.first (sub - 8)
  else odGet s 0x7000 sub

/-- Objects of a tap (R150, R402). -/
def tapView (s : State) (t sub : Nat) : Nat :=
  let x := tapAt s t
  if sub = 2 then tapStateCode x.state
  else if sub = 4 then tapStateWord s t
  else if sub = 0x0E then ctxStatusWord x
  else odGet s (0x3000 + t) sub

/-- Credits that a port owes on VC 0 and VC 1 of plane `k` now (R212, R271, R296, R404). -/
def creditsNow (s : State) (k : Nat) : PortRef → Nat
  | .lattice p => planeUsed (latAt s p) k
  | .adit a => ringCredits (aditAt s a) k

/-- Counters of a quern position: ACCEPTED of an input and CREDITS, each over its planes (R212, R404). DEDUCED (log entry 78). -/
def quernCounterView (s : State) (q sub : Nat) : Nat :=
  if between 1 0x10 sub && q < s.params.positions then
    ((List.range 8).map fun k => RegFile.get 0 (k * 16 + (sub - 1)) (quernAt s q).accepted).sum % 2 ^ 32
  else if sub = 0x11 && q < s.params.positions then
    ((planesOf s q).flatMap fun k => (quernPorts s q k).map fun p => creditsNow s k p.1).sum % 2 ^ 32
  else odGet s (0x7020 + q) sub

/-- Counters of a tap: its audit counters read 0 while it is UNBOUND (R404). -/
def tapCounterView (s : State) (t sub : Nat) : Nat :=
  if sub ≤ 0x20 && (tapAt s t).state == .unbound then 0 else odGet s (0x7080 + t) sub

/-- LAUNCH_STATE (R241). -/
def LaunchState.no : LaunchState → Nat
  | .idle => 0 | .armed => 1 | .fired => 2 | .aborted => 3

/-- Objects of global time (R244). -/
def timeView (s : State) (sub : Nat) : Nat :=
  if sub = 1 then (gtcNow s).toNat
  else if sub = 2 then s.gtc.state.no
  else if sub = 5 then patternOf s.gtc.rate 64
  else if sub = 0x0C then errorBound s
  else odGet s 0x6040 sub

/-- Objects of the Gallery (R339, R345). DEDUCED (log entry 75). -/
def galleryView (s : State) (sub : Nat) : Nat :=
  let steps := s.gallery.rows.map fun r => r.step.toNat
  if sub = 4 then galDepth s
  else if sub = 5 then entrySizes s
  else if sub = 6 then steps.headD 0
  else if sub = 7 then steps.getLastD 0
  else odGet s 0x5040 sub

/-- A captured digest word (R344, R345). -/
def captureView (s : State) (sub : Nat) : Nat :=
  (capWords s (odGet s 0x5051 1) (odGet s 0x5051 2)).getD (sub - 3) 0

/-- Objects of the paths and the lock (R389, R390). -/
def pathView (s : State) (sub : Nat) : Nat :=
  if sub = 4 then (match s.lock.holder with | none => 0 | some p => pathNo p)
  else if sub = 5 then (match s.lock.holder with | some (.inBand n) => n.toNat | _ => 0xFFFFFFFF)
  else odGet s 0x1100 sub

/-- The value of an object at the instant of a read. -/
def odView (s : State) (i sub : Nat) : Nat :=
  let p := s.params
  if i = 0x1100 then pathView s sub
  else if inIdx i 0x2100 p.querns then
    (match sub with | 1 => quernState s (i - 0x2100) | 2 => standsFor s (i - 0x2100) | _ => quernKind p (i - 0x2100))
  else if inIdx i 0x2201 0x51 then treeView s i sub
  else if inIdx i 0x3000 p.taps then tapView s (i - 0x3000) sub
  else if inIdx i 0x4000 p.latticePorts then
    (if sub = 1 then (latAt s (i - 0x4000)).state.no
     else if sub = 0x12 then planeBits (portPlanes s (.lattice (i - 0x4000))) else odGet s i sub)
  else if inIdx i 0x4100 p.aditPorts then
    (if sub = 1 then (aditAt s (i - 0x4100)).state.no
     else if sub = 0x0D then b2n (aditAt s (i - 0x4100)).packTx + 2 * b2n (aditAt s (i - 0x4100)).packRx
     else if sub = 0x16 then planeBits (portPlanes s (.adit (i - 0x4100)))
     else if sub = 0x17 then (aditAt s (i - 0x4100)).session.toNat else odGet s i sub)
  else if i = 0x5010 then
    (match sub with | 1 => classInForce s | 2 => seedPrint s 0x5001 | 3 => seedPrint s 0x5000 | _ => odGet s i sub)
  else if i = 0x5040 then galleryView s sub
  else if i = 0x5051 && 3 ≤ sub then captureView s sub
  else if i = 0x6000 then bitsOf s.flags.toNat (64 * sub - 1) (64 * (sub - 1))
  else if i = 0x6010 then (sluiceLines s).toNat
  else if i = 0x6040 then timeView s sub
  else if i = 0x6050 && sub = 3 then s.launch.no
  else if i = 0x7000 then sumpView s sub
  else if inIdx i 0x7018 p.aditPorts && between 0x18 0x1F sub then creditsNow s (sub - 0x18) (.adit (i - 0x7018))
  else if inIdx i 0x7040 p.latticePorts && between 0x18 0x1F sub then creditsNow s (sub - 0x18) (.lattice (i - 0x7040))
  else if inIdx i 0x7020 p.querns then quernCounterView s (i - 0x7020) sub
  else if inIdx i 0x7080 p.taps then tapCounterView s (i - 0x7080) sub
  else if i = 0x7100 && sub = 4 then s.power.planes.toNat
  else if i = 0x7100 && sub = 6 then s.power.state.no
  else odGet s i sub

/-! ### Checks (R381 to R383, R389, R438) -/

/-- Whether the path is enabled in PATHS_EN. -/
def pathOn (s : State) (p : Path) : Bool := bitOf (odGet s 0x1100 0x02) (pathNo p - 1)

/-- The rows of an index on this instance. -/
def indexRows (s : State) (i : Nat) : List ObjRow := rowsOf s.params s.nodeStrap.toNat s.i3cStrap.toNat i

/-- N_SUB, where the index exists (R380). -/
def nSub (s : State) (i : Nat) : Option Nat := (indexRows s i).getLast?.map (·.hi)

/-- The row of an object; subindex 0 is N_SUB. -/
def accessRow (s : State) (i sub : Nat) : Option ObjRow :=
  if sub = 0 then (nSub s i).map fun n => ⟨0, 0, .u8, .const, [n], 0, 0⟩ else objRow s i sub

/-- One mebibyte. -/
def mib : Nat := 2 ^ 20

/-- Range rules that are no plain bounds. DEDUCED (log entry 91). -/
def objectRange (s : State) (i sub v : Nat) : Bool :=
  let p := s.params
  if i = 0x1100 && sub = 2 then v % 8 != 0
  else if i = 0x1100 && sub = 6 then v = 0 || 100 ≤ v
  else if inIdx i 0x3000 p.taps then
    (match sub with
     | 0x08 => v % 64 == 0
     | 0x09 => v &&& (v - 1) == 0
     | 0x0A => v % 4096 == 0
     | 0x0C => v % 4096 == 0
     | _ => sub < 0x10 || v < 256 || v = 0xFFFF)
  else if inIdx i 0x4000 p.latticePorts && sub = 0x0B then v = 2 || v = 4 || v = 8
  else if inIdx i 0x4100 p.aditPorts && sub = 0x0E then v % mib == 0
  else if i = 0x4110 then v % mib == 0 && (sub = 1 || v ≤ 2 ^ 30)
  else if i = 0x5040 && (sub = 1 || sub = 2) then v % mib == 0 && (sub = 1 || v ≤ 16 * 2 ^ 30)
  else if i = 0x5040 && sub = 3 then v % 256 == 0
  else if i = 0x7F00 && sub = 5 then v % 256 == 0
  else true

/-- Whether the value may be written: the range of the type, of the object, and the listed codes (R381). -/
def inRange (s : State) (r : ObjRow) (i sub v : Nat) : Bool :=
  (r.ty != .bool || v ≤ 1) && r.min ≤ v && v ≤ r.max && objectRange s i sub v

/-- Whether a lattice port is idle. -/
def latIdle (s : State) (p : Nat) : Bool :=
  match (latAt s p).state with | .disabled => true | .absent => true | .down => true | _ => false

/-- Whether an adit port is idle. -/
def aditIdle (s : State) (a : Nat) : Bool :=
  match (aditAt s a).state with | .disabled => true | .absent => true | .down => true | _ => false

/-- Whether a tap is idle. -/
def tapIdle (x : Tap) : Bool := x.queue.isEmpty && x.state != .saving && x.state != .parked

/-- Whether the scope of an RWI object is idle (R149, R383). -/
def scopeIdle (s : State) (i : Nat) : Bool :=
  let p := s.params
  if inIdx i 0x3000 p.taps then tapIdle (tapAt s (i - 0x3000))
  else if inIdx i 0x3100 256 then
    (List.range p.taps).all fun t =>
      tapIdle (tapAt s t) || (List.range 8).all fun j => odGet s (0x3000 + t) (0x10 + j) != i - 0x3100
  else if inIdx i 0x4000 p.latticePorts then latIdle s (i - 0x4000)
  else if inIdx i 0x4100 p.aditPorts then aditIdle s (i - 0x4100)
  else if i = 0x4110 then (List.range p.aditPorts).all (aditIdle s)
  else if i = 0x5040 then (activePlanes s).isEmpty
  else
    (s.lattice.all fun x => x.state == .disabled || x.state == .absent)
      && s.adits.all fun x => x.state == .disabled || x.state == .absent

/-- Whether an object belongs to the staged set (R399). DEDUCED (log entry 61). -/
def isStaged (s : State) (i sub : Nat) : Bool :=
  (i = 0x2200 && sub = 1) || (i = 0x2201 && sub != 0x0F) || (inIdx i 0x2210 s.params.planes && sub != 0x0A)
    || inIdx i 0x2240 s.params.querns || (inIdx i 0x3000 s.params.taps && sub = 1) || i = 0x5000
    || (i = 0x2000 && (sub = 1 || sub = 3))

/-- Whether the object may be written now. DEDUCED (log entry 61). -/
def writable (s : State) (r : ObjRow) (i sub : Nat) : Bool :=
  (r.acc != .rwi || scopeIdle s i) && (!isStaged s i sub || stagedOpen s)

/-- The first check that a write fails, up to the idle scope, in the order of R438; 0 for none. -/
def writeCheck (s : State) (p : Path) (i sub : Nat) (data : List Byte) : Nat :=
  if !pathOn s p then 0x0A
  else
    match accessRow s i sub with
    | none => 1
    | some r =>
      if r.acc == .ro || r.acc == .const then 2
      else if data.length != r.ty.bytes then 4
      else if !(i = 0x1100 && sub = 3) && s.lock.holder != some p then 7
      else if !inRange s r i sub (bytesToNat data) then 5
      else if !writable s r i sub then 6
      else 0

/-! ### Stored values -/

/-- An object takes a value. A lost configuration object that management writes is lost no more (R354). DEDUCED (log entry 58). -/
def storeObject (s : State) (i sub v : Nat) : State :=
  let s := odSet s i sub (keepBits s i sub v)
  { s with setup := { s.setup with objectLost := s.setup.objectLost.filter fun o => o != (i, sub) } }

/-- A staged object takes a value (R399). DEDUCED (log entry 61). -/
def storeStaged (s : State) (i sub v : Nat) : State := stagedWritten (storeObject s i sub v)

/-! ### Rules of single objects -/

/-- The lock goes to `p` (R390). -/
def lockGrant (s : State) (p : Path) : State := odSet { s with lock := { holder := some p } } 0x1100 0x07 (gtcNow s).toNat

/-- LOCK_CMD ACQUIRE. -/
def lockAcquire (s : State) (p : Path) : Done :=
  match s.lock.holder with
  | none => (lockGrant s p, 0)
  | some h => if h = p then (s, 0) else (accessConflict s (pathNo p) 0x1100 3, 7)

/-- LOCK_CMD RELEASE. -/
def lockRelease (s : State) (p : Path) : Done :=
  match s.lock.holder with
  | none => (s, 0)
  | some h => if h = p then ({ s with lock := {} }, 0) else (s, 7)

/-- LOCK_CMD BREAK. -/
def lockBreak (s : State) (p : Path) : Done :=
  if p != .i3c then (s, 5)
  else
    match s.lock.holder with
    | none => (lockGrant s p, 0)
    | some h => if h = p then (s, 0) else (accessConflict (lockGrant s p) (pathNo h) 0x1100 3, 0)

/-- LOCK_CMD (R390). -/
def lockCmd (s : State) (p : Path) (v : Nat) : Done :=
  match v with
  | 1 => lockAcquire s p
  | 2 => lockRelease s p
  | _ => lockBreak s p

/-- SPARE_IN: quern `n`, whose plane is drained, by spare `spare` (R358, R379). DEDUCED (log entry 89). -/
def doSpareIn (s : State) (n spare : Nat) : Done :=
  let pos :=
    match positionOf s n with
    | some q => some q
    | none => if n < s.params.positions && (quernAt s n).server.isNone && (quernAt s n).switching.isNone then some n else none
  match pos with
  | none => (s, 5)
  | some q =>
    if !(spareFree s spare && spareFits s.params spare q) then (s, 5)
    else if !((planesOf s q).all fun k => planeState s k = 3) then (s, 8)
    else
      (modQuern s q fun x => { x with
        server := none, switching := some spare, fenceFail := some { noFail with obj := n }, entries := [], merges := []
        scaleRecs := [] }, 0)

/-- EPOCH_CMD (R400). -/
def epochCmd (s : State) (v : Nat) : Done :=
  match v with
  | 1 => doPrepare s
  | 2 => doApply s
  | _ => doAbandon s

/-- PLANE_CMD (R420, R423). -/
def planeCmd (s : State) (k v : Nat) : State := if v = 1 then doDrain s k else doUndrain s k

/-- Whether a write of a quern's input names the source that R18 and R19 fix, or none (R402); for inputs 8 to 15 of a plane quern R402 names
no refusal, and any source is accepted. DEDUCED (log entry 90), DESIGN CHOICE (log entry 124). -/
def sourceOk (s : State) (q sub v : Nat) : Bool :=
  let i := sub - 0x10
  let named := (bitsOf v 63 60, bitsOf v 59 52)
  if s.params.taps = 0 || !between 0x10 0x1F sub || bitsOf v 63 60 = 0 then true
  else if q < s.params.leafQuerns then named == (1, 16 * q + i)
  else if i < 8 then i < s.params.leafQuerns && named == (4, i)
  else true

/-- A configuration object of quern `q` (R402). -/
def quernConfig (s : State) (q sub v : Nat) : Done :=
  if s.params.positions ≤ q || !sourceOk s q sub v then (s, 5) else (storeStaged s (0x2240 + q) sub v, 0)

/-- CTX_CMD; without an image of its own the command takes the one at CTX_ADDR (R163, R167, R168, R171). DESIGN CHOICE (log entry 49). -/
def ctxCmd (s : State) (t v : Nat) (img : Option CtxImage) : Done :=
  let take := fun (flags : Bool) =>
    match img with
    | some i => (doRestore s t i flags, 0)
    | none => (doRestore (useFree s) t (imageAt s t) flags, 0)
  match v with
  | 1 => doSave s t
  | 2 => take false
  | 3 => take true
  | _ => doFence s t

/-- Whether an area object may take its value: the area lies within a region of the tap with the permission (R151). DEDUCED (log entry 91). -/
def areaOk (s : State) (t sub : Nat) : Bool :=
  let g := odGet s (0x3000 + t)
  let within := fun (base size perm : Nat) => size = 0 || inRegion s t base size perm
  if sub = 8 || sub = 9 then within (g 0x08) (64 * g 0x09) 2
  else if sub = 0x0A || sub = 0x0B then within (g 0x0A) (g 0x0B) 3
  else if sub = 0x0C then within (g 0x0C) 49152 4
  else true

/-- A tap object (R150, R151, R207). -/
def tapObject (s : State) (t sub v : Nat) (img : Option CtxImage) : Done :=
  if sub = 1 then (storeStaged s (0x3000 + t) 1 v, 0)
  else if sub = 3 then (doSluiceMember t v s, 0)
  else if sub = 0x0D then ctxCmd s t v img
  else
    let s' := storeObject s (0x3000 + t) sub v
    if areaOk s' t sub then (s', 0) else (s, 5)

/-- CMD of a lattice port (R252, R256, R278, R424). -/
def latticeCmd (s : State) (p v : Nat) : Done :=
  match v with
  | 1 => (latEnable s p, 0)
  | 2 => (latDisable s p, 0)
  | 3 => (latRetrain s p, 0)
  | _ => if latTestOk s p then (modLat s p fun x => { x with state := .test }, 0) else (s, 8)

/-- CMD of an adit port (R287, R306). -/
def aditCmd (s : State) (a v : Nat) : Done :=
  match v with
  | 1 => if aditEnableOk s a then (aditEnableDo s a, 0) else (s, 5)
  | 2 => (aditDisableDo s a, 0)
  | _ => (aditRestart s a, 0)

/-- Whether two areas share a byte. -/
def overlap (b1 n1 b2 n2 : Nat) : Bool := n1 != 0 && n2 != 0 && b1 < b2 + n2 && b2 < b1 + n1

/-- The retention area of an adit port, in bytes. -/
def ringArea (s : State) (a : Nat) : Nat × Nat := (odGet s (0x4100 + a) 0x0E, odGet s (0x4100 + a) 0x0F * mib)

/-- Whether an adit port's retention area lies in the retransmission partition (R297, R403). -/
def ringInside (s : State) (a : Nat) : Bool :=
  let (b, n) := ringArea s a
  odGet s 0x4110 1 ≤ b && b + n ≤ odGet s 0x4110 1 + odGet s 0x4110 2

/-- RETAIN_BASE and RETAIN_SIZE of an adit port (R297). DEDUCED (log entry 103). -/
def ringObject (s : State) (a sub v : Nat) : Done :=
  let s' := storeObject s (0x4100 + a) sub v
  let (b, n) := ringArea s' a
  if !(sub = 0x0F && v = 0) && !ringInside s' a then (s, 5)
  else if (List.range s.params.aditPorts).any fun c => c != a && overlap b n (ringArea s' c).1 (ringArea s' c).2 then (s, 8)
  else (s', 0)

/-- An adit port object (R297, R301, R306). -/
def aditObject (s : State) (a sub v : Nat) : Done :=
  let o := 0x4100 + a
  if sub = 2 then aditCmd s a v
  else if sub = 0x0E || sub = 0x0F then ringObject s a sub v
  else if sub = 0x13 && odGet s o 0x14 < 4 * v then (s, 5)
  else if sub = 0x14 && v < 4 * odGet s o 0x13 then (s, 5)
  else (storeObject s o sub v, 0)

/-- Whether the two partitions of the package memory overlap (R22). -/
def partitionsOverlap (s : State) : Bool :=
  s.params.galleryPackage && overlap (odGet s 0x4110 1) (odGet s 0x4110 2) (odGet s 0x5040 1) (odGet s 0x5040 2)

/-- The retransmission partition (R403). DEDUCED (log entry 103). -/
def retxObject (s : State) (sub v : Nat) : Done :=
  let s' := storeObject s 0x4110 sub v
  if partitionsOverlap s' then (s, 8)
  else if (List.range s.params.aditPorts).any fun a => (ringArea s' a).2 != 0 && !ringInside s' a then (s, 5)
  else (s', 0)

/-- A Gallery object (R22, R345). -/
def galleryObject (s : State) (sub v : Nat) : Done :=
  if sub = 9 then (doGalleryClear s, 0)
  else
    let s' := storeObject s 0x5040 sub v
    if partitionsOverlap s' then (s, 8)
    else ({ s' with gallery := { s'.gallery with rows := s'.gallery.rows.drop (s'.gallery.rows.length - galDepth s') } }, 0)

/-- FLAG_SET and FLAG_CLEAR (R196, R226). -/
def flagObject (s : State) (v : Nat) (set : Bool) : Done :=
  if v < 4096 then (flagOp s v set, 0) else (sump s 0x0013 0 6 128 0xFF 0xFFFFFF 0 (u64 v), 5)

/-- PAUSE_CMD (R222). -/
def pauseCmd (s : State) (v : Nat) : Done :=
  if s.params.taps = 0 then (s, 5) else (if v = 1 then doPause s else doResume s, 0)

/-- GTC_SET (R242, R244). -/
def gtcSetTo (s : State) (v : Nat) : Done :=
  if (timeRole s).1 && s.launch == .idle then ({ s with gtc := { s.gtc with count := u64 v, frac := 0, sub := 0 } }, 0) else (s, 5)

/-- LAUNCH_CMD (R208, R242, R243). DEDUCED (log entry 40). -/
def launchCmd (s : State) (v : Nat) : Done :=
  if v = 1 then
    let r := armRefusal s
    if r = 0 then ({ s with launch := .armed }, 0) else (odSet s 0x6050 0x08 r, if r = 4 then 8 else 5)
  else (doDisarm s, 0)

/-- SUMP_CLEAR (R367, R371). DEDUCED (log entry 68). -/
def doSumpClear (s : State) : State := { s with sump := { s.sump with recs := [], first := none, lastRec := [] } }

/-- Whether a descriptor is in flight on plane `k`. -/
def planeInFlight (s : State) (k : Nat) : Bool :=
  (s.taps.any fun x => (startedOf x).any fun f => f.planes.contains k) || s.querns.any fun q => q.entries.any fun e => e.plane == k

/-- COUNT_REBASE (R378); bits of planes that the instance does not have are ignored. -/
def countRebaseDo (s : State) (v : Nat) : Done :=
  let ks := (List.range s.params.planes).filter fun k => bitOf v k
  if ks.any (planeInFlight s) then (s, 8)
  else
    (forAll ks s fun s k =>
      forAll (List.range s.params.positions) (forAll (List.range s.params.taps) s fun s t => tapRebase s t k)
        fun s q => quernRebase s q k, 0)

/-- The counters that COUNTERS_CLEAR clears (R404). -/
def nonAudit (s : State) (i sub : Nat) : Bool :=
  let p := s.params
  i = 0x7001 || inIdx i 0x7008 p.planes || (inIdx i 0x7018 p.aditPorts && sub ≤ 0x0E)
    || (inIdx i 0x7020 p.querns && 0x12 ≤ sub) || (inIdx i 0x7040 p.latticePorts && sub ≤ 0x15)
    || (inIdx i 0x7080 p.taps && 0x21 ≤ sub) || (i = 0x7000 && (sub = 0x0C || sub = 0x0E))
    || (i = 0x5010 && sub = 4) || (i = 0x5040 && sub = 8) || (i = 0x7100 && sub = 9)

/-- COUNTERS_CLEAR. -/
def countersClearDo (s : State) : State := defaultObjects s (nonAudit s)

/-- The injection kinds of a unit, by its OBJECT_KIND; none for a unit that the instance does not have (R405). DEDUCED (log entry 100). -/
def injectKinds (s : State) (kind unit : Nat) : List Nat :=
  if kind = 2 then (if unit < s.params.querns then [1, 2, 3, 4] else [])
  else if kind = 3 then (if unit < s.params.latticePorts then [1, 2, 3, 5] else [])
  else if kind = 4 then (if unit < s.params.aditPorts then [1, 2, 3, 5, 6] else [])
  else []

/-- INJ_CMD (R405). DEDUCED (log entry 100). -/
def injectCmd (s : State) (v : Nat) : Done :=
  if v = 1 then
    let u := odGet s 0x7038 2
    let k := odGet s 0x7038 1
    if s.inject.armed || !(injectKinds s (bitsOf u 15 8) (bitsOf u 7 0)).contains k then (s, 5)
    else
      let s := { s with inject := { armed := true, kind := k, objKind := bitsOf u 15 8, unit := bitsOf u 7 0, left := odGet s 0x7038 3 } }
      (odSet (odSet s 0x7038 5 1) 0x7038 6 0, 0)
  else (odSet { s with inject := {} } 0x7038 5 0, 0)

/-- Clock and power objects (R409 to R413). -/
def powerObject (s : State) (sub v : Nat) : Done :=
  match sub with
  | 1 => doProfileReq s v
  | 3 => doFclk s v
  | 5 => (if v = 1 then doEnter s else wakeTrigger s, 0)
  | _ => (storeObject s 0x7100 sub v, 0)

/-- Resets (R416). -/
def resetObject (s : State) (sub v : Nat) : Done :=
  match sub with
  | 1 => (blockReset s 1, 0)
  | 2 => (doResetPlanes s v, 0)
  | 3 => doResetLattice s v
  | 4 => doResetAdit s v
  | _ => doResetTap s v

/-- LOAD_CMD (R406). -/
def loadCmd (s : State) (v : Nat) : Done :=
  match v with
  | 1 => doBegin s
  | 2 => doSeal s
  | 3 => doSwap s
  | _ => (doCancel s, 0)

/-- Whether a write leaves both bucket timeouts above T_LINK_RECOVERY (R362). -/
def timeoutsKept (s : State) (sub v : Nat) : Bool :=
  let after := fun (k : Nat) => if k = sub then v else odGet s 0x6020 k
  after 4 < after 1 && after 4 < after 2

/-- What an accepted write does by the rules of its object: the state and OK, RANGE or CONFLICT (R438). -/
def objectRule (s : State) (p : Path) (i sub : Nat) (data : List Byte) (img : Option CtxImage) : Done :=
  let v := bytesToNat data
  let n := s.params
  if i = 0x1100 && sub = 3 then lockCmd s p v
  else if inIdx i 0x2100 n.querns then doSpareIn s (i - 0x2100) v
  else if i = 0x2200 && sub = 2 then epochCmd s v
  else if i = 0x2201 && sub = 0x0F then doStdAssign s
  else if inIdx i 0x2210 n.planes && sub = 0x0A then (planeCmd s (i - 0x2210) v, 0)
  else if inIdx i 0x2240 n.querns then quernConfig s (i - 0x2240) sub v
  else if inIdx i 0x3000 n.taps then tapObject s (i - 0x3000) sub v img
  else if inIdx i 0x4000 n.latticePorts && sub = 2 then latticeCmd s (i - 0x4000) v
  else if inIdx i 0x4100 n.aditPorts then aditObject s (i - 0x4100) sub v
  else if i = 0x4110 then retxObject s sub v
  else if i = 0x5040 then galleryObject s sub v
  else if i = 0x5041 && sub = 4 then (if v = 1 then doFetchEntry s else doFetchRow s, 0)
  else if i = 0x5050 && sub = 3 then (if v = 1 then doCapArm s else doCapDisarm s, 0)
  else if i = 0x6001 then flagObject s v (sub = 1)
  else if i = 0x6020 && !timeoutsKept s sub v then (s, 5)
  else if i = 0x6030 then pauseCmd s v
  else if i = 0x6040 && sub = 7 then gtcSetTo s v
  else if i = 0x6050 && sub = 1 && s.launch != .idle then (s, 5)
  else if i = 0x6050 && sub = 2 then launchCmd s v
  else if i = 0x7000 && sub = 0x0D then (doSumpClear s, 0)
  else if i = 0x7001 then (countersClearDo s, 0)
  else if i = 0x7010 && sub = 3 then countRebaseDo s v
  else if i = 0x7038 && sub = 4 then injectCmd s v
  else if i = 0x7100 then powerObject s sub v
  else if i = 0x7102 then resetObject s sub v
  else if i = 0x7F00 && sub = 8 then doLoadData s data
  else if i = 0x7F00 && sub = 9 then loadCmd s v
  else if isStaged s i sub then (storeStaged s i sub v, 0)
  else (storeObject s i sub v, 0)

/-! ### Requests (R385 to R388, R404, R438) -/

/-- The clock domains that hold the state of an object: a request for it starts them (R407, R408). DESIGN CHOICE (log entries 64, 94). -/
def startFor (s : State) (i : Nat) : State :=
  let n := s.params
  if fabricAsleep s then s
  else if inIdx i 0x7008 n.planes then startPlane s (i - 0x7008)
  else if inIdx i 0x2100 n.querns || inIdx i 0x7020 n.querns then
    let q := if inIdx i 0x2100 n.querns then i - 0x2100 else i - 0x7020
    if q < n.leafQuerns then startCommon s else forAll (planesOf s q) s startPlane
  else if inIdx i 0x3000 n.taps || inIdx i 0x7080 n.taps || i = 0x6000 || i = 0x6001 || i = 0x6010 || i = 0x6030
      || (tapped s && inIdx i 0x5040 0x12) then startCommon s
  else s

/-- A response with STATUS other than OK is counted (R404). DEDUCED (log entry 93). -/
def refused (s : State) (st : Nat) : State :=
  let s := if st = 0 then s else cnt s 0x7001 0x03
  if st = 7 then cnt s 0x7001 0x06 else s

/-- E_ACCESS_CONFLICT for a refusal with LOCK or CONFLICT (R438); LOCK_CMD writes its own under R390. -/
def refusalRecord (s : State) (p : Path) (i sub st : Nat) : State :=
  if st = 7 || st = 8 then accessConflict s (pathNo p) i sub else s

/-- A WRITE request: the state and its STATUS. `img` is the image that a restore of CTX_CMD finds at CTX_ADDR. DEDUCED (log entry 93). -/
def odWrite (s : State) (p : Path) (i sub : Nat) (data : List Byte) (img : Option CtxImage) : Done :=
  let st := writeCheck s p i sub data
  if st = 0x0A then (refused s st, st)
  else
    let s := cnt s 0x7001 0x02
    if st != 0 then (refused (refusalRecord s p i sub st) st, st)
    else
      let (s, st) := objectRule (startFor s i) p i sub data img
      (refused (if i = 0x1100 then s else refusalRecord s p i sub st) st, st)

/-- The first check that a read fails (R438). -/
def readCheck (s : State) (p : Path) (i sub : Nat) : Nat :=
  if !pathOn s p then 0x0A
  else
    match accessRow s i sub with
    | none => 1
    | some r => if r.acc == .wo then 3 else 0

/-- The bytes of an object's value (R381). -/
def odBytes (s : State) (i sub : Nat) : List Byte :=
  match accessRow s i sub with
  | none => []
  | some r => natToBytes (if sub = 0 then r.reset 0 else odView s i sub) r.ty.bytes

/-- While a fabric clock runs, a read of the GTC shows how far the tick has got: a free number of ns, never less than an earlier read
of the tick has shown (R228). DESIGN CHOICE (log entry 28). -/
def interpolate (s : State) : State :=
  if s.power.common || s.power.planes != 0 then
    useFree { s with gtc := { s.gtc with sub := s.gtc.sub + freeVal s % (10 - s.gtc.sub % 10) } }
  else s

/-- A READ request: the state, its STATUS and the value. DEDUCED (log entry 93). -/
def odRead (s : State) (p : Path) (i sub : Nat) : State × Nat × List Byte :=
  let st := readCheck s p i sub
  if st = 0x0A then (refused s st, st, [])
  else
    let s := cnt s 0x7001 0x02
    if st = 0 then
      let s := if i = 0x6040 && sub = 1 then interpolate (startFor s i) else startFor s i
      (s, 0, odBytes s i sub)
    else (refused s st, st, [])

/-- A request waits while a block reset or a microcode swap holds the millwright engine (R416, R425). -/
def onEngine (s : State) (c : Instr) (f : State → State) : State :=
  if s.resetting || s.swapping then { s with held := s.held ++ [(.engine, c)] } else f s

/-- A WRITE request and its response. DESIGN CHOICE (log entry 64). -/
def serveWrite (s : State) (p : Path) (i sub : Nat) (data : List Byte) (img : Option CtxImage) : State :=
  let r := odWrite s p i sub data img
  emit r.1 (.odResponse p r.2 [])

/-- A READ request and its response. DESIGN CHOICE (log entry 64). -/
def serveRead (s : State) (p : Path) (i sub : Nat) : State :=
  let r := odRead s p i sub
  emit r.1 (.odResponse p r.2.1 r.2.2)

/-- A WRITE request that arrives at the engine. -/
def requestWrite (p : Path) (i sub : Nat) (data : List Byte) (s : State) : State :=
  onEngine s (.registerWrite (.odWrite p i sub data)) fun s => serveWrite s p i sub data none

/-- A READ request that arrives at the engine. -/
def requestRead (p : Path) (i sub : Nat) (s : State) : State :=
  onEngine s (.registerWrite (.odRead p i sub)) fun s => serveRead s p i sub

/-- A command that is a write of `v`, `len` bytes long. -/
def rowWrite (p : Path) (i sub v len : Nat) (s : State) : State := requestWrite p i sub (natToBytes v len) s

/-- A restore of tap `t` with the image that it finds at CTX_ADDR: CTX_CMD = `v`. -/
def requestImage (p : Path) (t v : Nat) (image : List Byte) (s : State) : State :=
  onEngine s (if v = 2 then .restore p t image else .restoreFlags p t image) fun s =>
    serveWrite s p (if t < s.params.taps then 0x3000 + t else 0xFFFF) 0x0D (natToBytes v 1) (some (imageOfBytes image))

/-- The index of unit `k` of `n` units from `base`; an absent index for a unit that the instance does not have. DEDUCED (log entry 104). -/
def unitIndex (base k n : Nat) : Nat := if k < n then base + k else 0xFFFF

/-! ### The commands -/

/-- SLUICE_MEMBER_WRITE (R207). -/
def execSluiceMemberWrite (p : Path) (t : Nat) (v : U32) (s : State) : Host.Outcome State Fault Refusal :=
  .next (rowWrite p (unitIndex 0x3000 t s.params.taps) 0x03 v.toNat 4 s)
/-- PAUSE_CMD = PAUSE (R222). -/
def execPauseCmdPause (p : Path) (s : State) : Host.Outcome State Fault Refusal := .next (rowWrite p 0x6030 1 1 1 s)
/-- PAUSE_CMD = RESUME (R222). -/
def execPauseCmdResume (p : Path) (s : State) : Host.Outcome State Fault Refusal := .next (rowWrite p 0x6030 1 2 1 s)
/-- A write of FLAG_SET (R226). -/
def execOdFlagSet (p : Path) (v : U16) (s : State) : Host.Outcome State Fault Refusal := .next (rowWrite p 0x6001 1 v.toNat 2 s)
/-- A write of FLAG_CLEAR (R226). -/
def execOdFlagClear (p : Path) (v : U16) (s : State) : Host.Outcome State Fault Refusal :=
  .next (rowWrite p 0x6001 2 v.toNat 2 s)
/-- A write of GTC_SET (R244). -/
def execGtcSet (p : Path) (v : U64) (s : State) : Host.Outcome State Fault Refusal := .next (rowWrite p 0x6040 7 v.toNat 8 s)
/-- LAUNCH_CMD = ARM (R242). -/
def execArm (p : Path) (s : State) : Host.Outcome State Fault Refusal := .next (rowWrite p 0x6050 2 1 1 s)
/-- LAUNCH_CMD = DISARM (R243). -/
def execDisarm (p : Path) (s : State) : Host.Outcome State Fault Refusal := .next (rowWrite p 0x6050 2 2 1 s)
/-- Lattice CMD = ENABLE (R278). -/
def execLatticeEnable (p : Path) (port : Nat) (s : State) : Host.Outcome State Fault Refusal :=
  .next (rowWrite p (unitIndex 0x4000 port s.params.latticePorts) 2 1 1 s)
/-- Lattice CMD = DISABLE (R278). -/
def execLatticeDisable (p : Path) (port : Nat) (s : State) : Host.Outcome State Fault Refusal :=
  .next (rowWrite p (unitIndex 0x4000 port s.params.latticePorts) 2 2 1 s)
/-- Lattice CMD = RETRAIN (R424). -/
def execRetrain (p : Path) (port : Nat) (s : State) : Host.Outcome State Fault Refusal :=
  .next (rowWrite p (unitIndex 0x4000 port s.params.latticePorts) 2 3 1 s)
/-- Lattice CMD = TEST (R256). -/
def execTest (p : Path) (port : Nat) (s : State) : Host.Outcome State Fault Refusal :=
  .next (rowWrite p (unitIndex 0x4000 port s.params.latticePorts) 2 4 1 s)
/-- Adit CMD = ENABLE (R287). -/
def execAditEnable (p : Path) (a : Nat) (s : State) : Host.Outcome State Fault Refusal :=
  .next (rowWrite p (unitIndex 0x4100 a s.params.aditPorts) 2 1 1 s)
/-- Adit CMD = DISABLE (R306). -/
def execAditDisable (p : Path) (a : Nat) (s : State) : Host.Outcome State Fault Refusal :=
  .next (rowWrite p (unitIndex 0x4100 a s.params.aditPorts) 2 2 1 s)
/-- Adit CMD = RESTART (R306). -/
def execRestart (p : Path) (a : Nat) (s : State) : Host.Outcome State Fault Refusal :=
  .next (rowWrite p (unitIndex 0x4100 a s.params.aditPorts) 2 3 1 s)
/-- A write of SPARE_IN (R358). -/
def execSpareIn (p : Path) (q spare : Nat) (s : State) : Host.Outcome State Fault Refusal :=
  .next (rowWrite p (unitIndex 0x2100 q s.params.querns) 3 (min spare 0xFF) 1 s)
/-- A write of COUNT_REBASE (R378). -/
def execCountRebase (p : Path) (planes : U32) (s : State) : Host.Outcome State Fault Refusal :=
  .next (rowWrite p 0x7010 3 planes.toNat 4 s)
/-- A write of SUMP_CLEAR (R367). -/
def execSumpClear (p : Path) (s : State) : Host.Outcome State Fault Refusal := .next (rowWrite p 0x7000 0x0D 1 1 s)
/-- INJ_CMD = ARM (R405). -/
def execInjArm (p : Path) (s : State) : Host.Outcome State Fault Refusal := .next (rowWrite p 0x7038 4 1 1 s)
/-- INJ_CMD = DISARM (R405). -/
def execInjDisarm (p : Path) (s : State) : Host.Outcome State Fault Refusal := .next (rowWrite p 0x7038 4 2 1 s)
/-- A write of COUNTERS_CLEAR (R404). -/
def execCountersClear (p : Path) (s : State) : Host.Outcome State Fault Refusal := .next (rowWrite p 0x7001 1 1 1 s)
/-- LOCK_CMD = ACQUIRE (R390). -/
def execAcquire (p : Path) (s : State) : Host.Outcome State Fault Refusal := .next (rowWrite p 0x1100 3 1 1 s)
/-- LOCK_CMD = RELEASE (R390). -/
def execRelease (p : Path) (s : State) : Host.Outcome State Fault Refusal := .next (rowWrite p 0x1100 3 2 1 s)
/-- LOCK_CMD = BREAK (R390). -/
def execBreakLock (p : Path) (s : State) : Host.Outcome State Fault Refusal := .next (rowWrite p 0x1100 3 3 1 s)
/-- EPOCH_CMD = PREPARE (R400). -/
def execPrepare (p : Path) (s : State) : Host.Outcome State Fault Refusal := .next (rowWrite p 0x2200 2 1 1 s)
/-- EPOCH_CMD = APPLY (R422). -/
def execApply (p : Path) (s : State) : Host.Outcome State Fault Refusal := .next (rowWrite p 0x2200 2 2 1 s)
/-- EPOCH_CMD = ABANDON (R400). -/
def execAbandon (p : Path) (s : State) : Host.Outcome State Fault Refusal := .next (rowWrite p 0x2200 2 3 1 s)
/-- A write of STD_ASSIGN (R401). -/
def execStdAssign (p : Path) (s : State) : Host.Outcome State Fault Refusal := .next (rowWrite p 0x2201 0x0F 1 1 s)
/-- PLANE_CMD = DRAIN (R420). -/
def execDrain (p : Path) (plane : Nat) (s : State) : Host.Outcome State Fault Refusal :=
  .next (rowWrite p (unitIndex 0x2210 plane s.params.planes) 0x0A 1 1 s)
/-- PLANE_CMD = UNDRAIN (R423). -/
def execUndrain (p : Path) (plane : Nat) (s : State) : Host.Outcome State Fault Refusal :=
  .next (rowWrite p (unitIndex 0x2210 plane s.params.planes) 0x0A 2 1 s)
/-- CTX_CMD = SAVE (R163). -/
def execSave (p : Path) (t : Nat) (s : State) : Host.Outcome State Fault Refusal :=
  .next (rowWrite p (unitIndex 0x3000 t s.params.taps) 0x0D 1 1 s)
/-- CTX_CMD = RESTORE (R167). -/
def execRestore (p : Path) (t : Nat) (image : List Byte) (s : State) : Host.Outcome State Fault Refusal :=
  .next (requestImage p t 2 image s)
/-- CTX_CMD = RESTORE_FLAGS (R168). -/
def execRestoreFlags (p : Path) (t : Nat) (image : List Byte) (s : State) : Host.Outcome State Fault Refusal :=
  .next (requestImage p t 3 image s)
/-- CTX_CMD = FENCE (R171). -/
def execFence (p : Path) (t : Nat) (s : State) : Host.Outcome State Fault Refusal :=
  .next (rowWrite p (unitIndex 0x3000 t s.params.taps) 0x0D 4 1 s)
/-- Q_CMD = FETCH entry (R343). -/
def execFetchEntry (p : Path) (s : State) : Host.Outcome State Fault Refusal := .next (rowWrite p 0x5041 4 1 1 s)
/-- Q_CMD = FETCH row header (R343). -/
def execFetchRowHeader (p : Path) (s : State) : Host.Outcome State Fault Refusal := .next (rowWrite p 0x5041 4 2 1 s)
/-- A write of CLEAR (R345). -/
def execGalleryClear (p : Path) (s : State) : Host.Outcome State Fault Refusal := .next (rowWrite p 0x5040 9 1 1 s)
/-- CAP_CMD = ARM (R344). -/
def execCapArm (p : Path) (s : State) : Host.Outcome State Fault Refusal := .next (rowWrite p 0x5050 3 1 1 s)
/-- CAP_CMD = DISARM (R344). -/
def execCapDisarm (p : Path) (s : State) : Host.Outcome State Fault Refusal := .next (rowWrite p 0x5050 3 2 1 s)
/-- LOAD_CMD = BEGIN (R406). -/
def execBegin (p : Path) (s : State) : Host.Outcome State Fault Refusal := .next (rowWrite p 0x7F00 9 1 1 s)
/-- A write of LOAD_DATA (R406). -/
def execLoadData (p : Path) (bytes : List Byte) (s : State) : Host.Outcome State Fault Refusal :=
  .next (requestWrite p 0x7F00 8 bytes s)
/-- LOAD_CMD = SEAL (R406). -/
def execSeal (p : Path) (s : State) : Host.Outcome State Fault Refusal := .next (rowWrite p 0x7F00 9 2 1 s)
/-- LOAD_CMD = SWAP (R406). -/
def execSwap (p : Path) (s : State) : Host.Outcome State Fault Refusal := .next (rowWrite p 0x7F00 9 3 1 s)
/-- LOAD_CMD = CANCEL (R406). -/
def execCancel (p : Path) (s : State) : Host.Outcome State Fault Refusal := .next (rowWrite p 0x7F00 9 4 1 s)
/-- DORMANT_CMD = ENTER (R412). -/
def execEnter (p : Path) (s : State) : Host.Outcome State Fault Refusal := .next (rowWrite p 0x7100 5 1 1 s)
/-- DORMANT_CMD = WAKE (R414). -/
def execWake (p : Path) (s : State) : Host.Outcome State Fault Refusal := .next (rowWrite p 0x7100 5 2 1 s)
/-- A write of PROFILE_REQ (R411). -/
def execProfileReqWrite (p : Path) (v : Nat) (s : State) : Host.Outcome State Fault Refusal :=
  .next (rowWrite p 0x7100 1 (min v 0xFF) 1 s)
/-- A write of FCLK_REQ (R409). -/
def execFclkReqWrite (p : Path) (v : U16) (s : State) : Host.Outcome State Fault Refusal :=
  .next (rowWrite p 0x7100 3 v.toNat 2 s)
/-- A write of RESET_BLOCK (R416). -/
def execResetBlock (p : Path) (s : State) : Host.Outcome State Fault Refusal := .next (rowWrite p 0x7102 1 1 1 s)
/-- A write of RESET_PLANES (R418). -/
def execResetPlanes (p : Path) (planes : U32) (s : State) : Host.Outcome State Fault Refusal :=
  .next (rowWrite p 0x7102 2 planes.toNat 4 s)
/-- A write of RESET_LATTICE (R416). -/
def execResetLattice (p : Path) (port : Nat) (s : State) : Host.Outcome State Fault Refusal :=
  .next (rowWrite p 0x7102 3 (min port 0xFF) 1 s)
/-- A write of RESET_ADIT (R416). -/
def execResetAdit (p : Path) (a : Nat) (s : State) : Host.Outcome State Fault Refusal :=
  .next (rowWrite p 0x7102 4 (min a 0xFF) 1 s)
/-- A write of RESET_TAP (R416). -/
def execResetTap (p : Path) (t : Nat) (s : State) : Host.Outcome State Fault Refusal :=
  .next (rowWrite p 0x7102 5 (min t 0xFF) 1 s)

end Sys2Proof.Machine
end

