-- ==== Sys2Proof/Machine/Paths.lean ====
section
/-! DEFINITION. The management paths: requests as bytes (R385), the register port mailbox (R391, R392), in-band messages (R393 to R396),
the I3C sideband (R397, R398), and the lock's timeout (R390). -/

namespace Sys2Proof.Machine

/-! ### Requests as bytes (R385) -/

/-- TAG of a request or response. -/
def reqTag (req : List Byte) : U16 := BitVec.ofNat 16 (fieldOf (wordAt req 0) 47 32)

/-- STATUS of a response. -/
def rspStatus (rsp : List Byte) : Nat := fieldOf (wordAt rsp 0) 55 48

/-- The response to a request, with a STATUS and the data of a READ. DEDUCED (log entry 92). -/
def responseTo (req : List Byte) (status : Nat) (data : List Byte) : List Byte :=
  let w := (wordAt req 0).toNat
  wordsToBytes [u64 ((128 ||| bitsOf w 63 56) * 2 ^ 56 + status * 2 ^ 48 + bitsOf w 47 32 * 2 ^ 32 + bitsOf w 31 8 * 2 ^ 8),
                u64 (data.length * 2 ^ 48)] ++ data

/-- A request with a reserved MCMD (R386). -/
def reservedRequest (s : State) (p : Path) : Done :=
  if pathOn s p then (refused (cnt s 0x7001 0x02) 1, 1) else (refused s 0x0A, 0x0A)

/-- A READ: one that carries a LENGTH is answered LENGTH. DEDUCED (log entry 92). -/
def readRequest (s : State) (p : Path) (i sub len : Nat) : State × Nat × List Byte :=
  let st := readCheck s p i sub
  if st = 0 && len != 0 then (refused (cnt s 0x7001 0x02) 4, 4, []) else odRead s p i sub

/-- A request executed: the state and the response. -/
def serveBytes (s : State) (p : Path) (req : List Byte) : State × List Byte :=
  let w := wordAt req 0
  let i := fieldOf w 31 16
  let sub := fieldOf w 15 8
  let len := fieldOf (wordAt req 8) 63 48
  match fieldOf w 63 56 with
  | 1 =>
    let r := readRequest s p i sub len
    (r.1, responseTo req r.2.1 r.2.2)
  | 2 =>
    let r := odWrite s p i sub ((req.drop 16).take len) none
    (r.1, responseTo req r.2 [])
  | _ =>
    let r := reservedRequest s p
    (r.1, responseTo req r.2 [])

/-! ### The mailbox (R391, R392) -/

/-- `n` bytes of a buffer, filled up with zeros. -/
def padBytes (bs : List Byte) (n : Nat) : List Byte := bs.take n ++ List.replicate (n - bs.length) 0

/-- Whether a command is a GO. -/
def isGo : Instr → Bool
  | .go _ => true
  | _ => false

/-- Whether a GO waits for the millwright engine. -/
def goWaits (s : State) : Bool := s.held.any fun h => isGo h.2

/-- Whether a request of the mailbox is under way. -/
def mbUnderWay (s : State) : Bool := s.paths.mbBusy || goWaits s

/-- The response to the last GO stands in MB_RSP; where nl_mb_irq is enabled, IRQ becomes pending. DEDUCED (log entry 97). -/
def mbFinish (s : State) (rsp : List Byte) (status : Nat) : State :=
  { s with paths := { s.paths with
      mbBusy := false, mbDone := true, mbStatus := status, mbRsp := padBytes rsp 320, mbTag := none
      mbIrq := s.paths.mbIrq || s.paths.mbIrqEn } }

/-- MB_STATUS; it reads BUSY during a block reset (R419). DEDUCED (log entry 55). -/
def mbStatusWord (s : State) : Nat :=
  b2n (mbUnderWay s || s.resetting) + 2 * b2n s.paths.mbDone + 4 * b2n s.paths.mbIrq + s.paths.mbStatus * 256

/-- The level of nl_mb_irq: IRQ where MB_IRQ enables it, low during a block reset (R391, R419). -/
def mbIrqPin (s : State) : Bool := !s.resetting && s.paths.mbIrq && s.paths.mbIrqEn

/-! ### In-band messages (R393 to R396) -/

/-- The port that a path byte names: none for a kind that does not exist, 0xFF among them. -/
def pathPort (n : Nat) : Option PortRef := if n < 128 then some (portOfByte n) else none

/-- Every port that carries virtual channel 3. -/
def vc3Ports (s : State) : List PortRef :=
  (((List.range s.params.latticePorts).map PortRef.lattice) ++ (List.range s.params.aditPorts).map PortRef.adit).filter (portUp s)

/-- A message put on virtual channel 3 of a port. -/
def putIb (s : State) (port : PortRef) (m : IbMsg) : State := queueFlits s port (flitsOf 3 0 0 (ibBytes m))

/-- A message is dropped (0x7001.05). -/
def ibDrop (s : State) : State := cnt s 0x7001 0x05

/-- A message goes on at a port, if that port carries virtual channel 3. -/
def sendOnPort (s : State) (b : Nat) (m : IbMsg) : Option State :=
  match pathPort b with
  | some p => if portUp s p then some (putIb s p m) else none
  | none => none

/-- A response that reached its originator: the mailbox takes it if it waits for that TAG. -/
def takeResponse (s : State) (m : IbMsg) : State :=
  if s.paths.mbBusy && s.paths.mbTag == some (reqTag m.request) then mbFinish s (ibBytes m) (rspStatus m.request) else s

/-- The response message to a request `m` as it arrived here. HOP_LIMIT of a response is not given: a free value from 1 to 16.
DESIGN CHOICE (log entry 95). -/
def responseMsg (s : State) (m : IbMsg) (rsp : List Byte) : IbMsg :=
  { rmode := 2, hops := 0, hopLimit := 1 + freeVal s % 16, pathLen := m.hops, destNode := 0, srcNode := u32 (nodeId s), response := true
    fwdPath := (List.range 16).map fun i => if i < m.hops then m.retPath.getD (m.hops - 1 - i) 0xFF else 0xFF
    retPath := List.replicate 16 0xFF, request := rsp }

/-- A response sent back along the path of its request (R395). -/
def answer (s : State) (m : IbMsg) (rsp : List Byte) : State :=
  let r := responseMsg s m rsp
  let s := useFree s
  if m.hops = 0 then takeResponse s r
  else (sendOnPort s (r.fwdPath.getD 0 0xFF) r).getD (ibDrop s)

/-- The answer of a destination is kept: the last 16 (R395). -/
def keepResponse (s : State) (m : IbMsg) (rsp : List Byte) : State :=
  let l := s.paths.kept
  { s with paths := { s.paths with
      kept := (if 16 ≤ l.length then l.drop 1 else l) ++ [{ src := m.srcNode, tag := reqTag m.request, rsp := rsp }] } }

/-- A request at its destination that is refused before it executes. -/
def refuseRequest (s : State) (m : IbMsg) (st : Nat) : State :=
  let rsp := responseTo m.request st []
  answer (keepResponse (refused s st) m rsp) m rsp

/-- In-band requests that wait for the millwright engine. -/
def ibWaiting (s : State) : Nat :=
  (s.held.filter fun h => match h.2 with | .ibMessage _ _ => true | _ => false).length

/-- A request at its destination (R395, R396). `c` is the command that brought it. DEDUCED (log entry 96). -/
def takeRequest (s : State) (c : Instr) (m : IbMsg) : State :=
  match s.paths.kept.find? fun k => k.src == m.srcNode && k.tag == reqTag m.request with
  | some k => answer s m k.rsp
  | none =>
    if s.resetting || s.swapping then
      if 16 ≤ ibWaiting s then refuseRequest s m (if pathOn s (.inBand m.srcNode) then 9 else 0x0A)
      else { s with held := s.held ++ [(.engine, c)] }
    else
      let r := serveBytes s (.inBand m.srcNode) m.request
      answer (keepResponse r.1 m r.2) m r.2

/-- A message at the node it is for. -/
def deliver (s : State) (c : Instr) (m : IbMsg) : State := if m.response then takeResponse s m else takeRequest s c m

/-- RMODE 2 (R394). -/
def byPath (s : State) (c : Instr) (m : IbMsg) : State :=
  if m.hops = m.pathLen then deliver s c m
  else
    match sendOnPort s (m.fwdPath.getD m.hops 0xFF) m with
    | some s => cnt s 0x7001 0x04
    | none =>
      if m.response then ibDrop s else answer (refused s 0x0B) m (responseTo m.request 0x0B [])

/-- RMODE 1: flooding with the forward table of 256 keys, of which a new one displaces the oldest (R394). DEDUCED (log entry 96). -/
def byNode (s : State) (c : Instr) (port : PortRef) (m : IbMsg) : State :=
  let key := (m.srcNode, reqTag m.request, m.response)
  if m.destNode.toNat = nodeId s then deliver s c m
  else if s.paths.fwd.contains key then ibDrop s
  else
    let l := s.paths.fwd
    let s := { s with paths := { s.paths with fwd := (if 256 ≤ l.length then l.drop 1 else l) ++ [key] } }
    if m.hops < m.hopLimit then
      cnt (forAll ((vc3Ports s).filter (· != port)) s fun s p => putIb s p m) 0x7001 0x04
    else s

/-- A message arrives on virtual channel 3 of a port (R394). DEDUCED (log entry 96). -/
def doIbMessage (port : PortRef) (m : IbMsg) (s : State) : State :=
  if 16 ≤ m.hops then ibDrop s
  else
    let c := Instr.ibMessage port m
    let m := { m with retPath := m.retPath.set m.hops (byteOfPort port), hops := m.hops + 1 }
    match m.rmode with
    | 1 => byNode s c port m
    | 2 => byPath s c m
    | _ => ibDrop s

/-- The message of a remote GO: MB_REQ with HOPS 0 and no return path. A HOP_LIMIT of 0 takes IB_HOP_LIMIT. DEDUCED (log entry 96). -/
def mbMessage (s : State) : IbMsg :=
  let m := ibOf s.paths.mbReq
  let len := fieldOf (wordAt m.request 8) 63 48
  { m with hops := 0, hopLimit := if m.hopLimit = 0 then odGet s 0x1100 0x08 else m.hopLimit, response := false
           retPath := List.replicate 16 0xFF, request := m.request.take (16 + len) }

/-- A remote request leaves the mailbox (R392, R394). -/
def goRemote (s : State) (c : Instr) : State :=
  let m := mbMessage s
  let s := { s with paths := { s.paths with mbBusy := true, mbTag := some (reqTag m.request) } }
  match m.rmode with
  | 1 => forAll (vc3Ports s) s fun s p => putIb s p m
  | 2 =>
    if m.pathLen = 0 then takeRequest s c m
    else
      match sendOnPort s (m.fwdPath.getD 0 0xFF) m with
      | some s => s
      | none => answer (refused s 0x0B) m (responseTo m.request 0x0B [])
  | _ => s

/-- A write of MB_CTRL: GO starts the request in MB_REQ, unless one is under way (R392). It waits for the engine (R416, R425).
DEDUCED (log entry 55). -/
def doGo (v : U32) (s : State) : State :=
  if !v.getLsbD 0 then s
  else if mbUnderWay s then cnt s 0x7001 0x07
  else
    let c := Instr.go v
    let s := { s with paths := { s.paths with mbDone := false } }
    if s.resetting || s.swapping then { s with held := s.held ++ [(.engine, c)] }
    else if v.getLsbD 1 then goRemote s c
    else
      let r := serveBytes s .regPort s.paths.mbReq
      mbFinish r.1 r.2 (rspStatus r.2)

/-- A write of MB_IRQ. DEDUCED (log entry 97). -/
def doMbIrq (v : U32) (s : State) : State :=
  { s with paths := { s.paths with mbIrqEn := v.getLsbD 0, mbIrq := s.paths.mbIrq && !v.getLsbD 1 } }

/-- Bytes put into a buffer from an offset. -/
def putBytes (l : List Byte) (o : Nat) (bs : List Byte) : List Byte := l.take o ++ bs ++ l.drop (o + bs.length)

/-- A write of the mailbox window: aligned 32-bit accesses only (R391). -/
def mailboxWrite (offset size data : Nat) (s : State) : State :=
  if size != 4 || offset % 4 != 0 then s
  else if offset = 0x004 then doGo (u32 data) s
  else if offset = 0x00C then doMbIrq (u32 data) s
  else if 0x100 ≤ offset && offset < 0x240 then
    if mbUnderWay s then cnt s 0x7001 0x07
    else { s with paths := { s.paths with mbReq := putBytes s.paths.mbReq (offset - 0x100) (natToBytes data 4) } }
  else s

/-- What a read of the mailbox window returns. -/
def mailboxValue (s : State) (offset size : Nat) : Nat :=
  let four := fun (l : List Byte) (o : Nat) => bytesToNat ((l.drop o).take 4)
  if size != 4 || offset % 4 != 0 then 0
  else if offset = 0 then 0x4E4C4D31
  else if offset = 0x008 then mbStatusWord s
  else if offset = 0x00C then b2n s.paths.mbIrqEn
  else if 0x100 ≤ offset && offset < 0x240 then four s.paths.mbReq (offset - 0x100)
  else if 0x300 ≤ offset && offset < 0x440 then four s.paths.mbRsp (offset - 0x300)
  else 0

/-- No response within IB_TIMEOUT: `elapsed` in µs. MB_RSP holds the routing header and the request header with STATUS TIMEOUT, their
reserved bits 0 (R3).
DEDUCED (log entry 96). -/
def doIbTimeout (elapsed : Nat) (s : State) : State :=
  if s.paths.mbBusy && odGet s 0x1100 0x09 ≤ elapsed then
    let req := s.paths.mbReq.drop 48
    let w := (wordAt req 0).toNat
    let hdr := wordsToBytes [u64 (bitsOf w 63 56 * 2 ^ 56 + 0x0C * 2 ^ 48 + bitsOf w 47 8 * 2 ^ 8),
                             u64 (bitsOf (wordAt req 8).toNat 63 48 * 2 ^ 48)]
    mbFinish s (ibBytes { ibOf (s.paths.mbReq.take 48) with request := hdr }) 0x0C
  else s

/-- A key of the forward table ages out: `elapsed` in ms. -/
def doForwardExpiry (src : U32) (tag : U16) (response : Bool) (elapsed : Nat) (s : State) : State :=
  if elapsed < 100 then s else { s with paths := { s.paths with fwd := s.paths.fwd.filter fun k => k != (src, tag, response) } }

/-- A kept response ages out: `elapsed` in ms. -/
def doKeptExpiry (src : U32) (tag : U16) (elapsed : Nat) (s : State) : State :=
  if elapsed < 1000 then s
  else { s with paths := { s.paths with kept := s.paths.kept.filter fun k => !(k.src == src && k.tag == tag) } }

/-! ### I3C (R397, R398) -/

/-- A private write: an unread response goes; 16 to 272 bytes carry a request. DEDUCED (log entry 99). -/
def doI3cWrite (bytes : List Byte) (s : State) : State :=
  let s := { s with paths := { s.paths with i3cRsp := none } }
  if bytes.length < 16 || 272 < bytes.length then s
  else
    onEngine s (.i3cPrivateWrite bytes) fun s =>
      let r := serveBytes s .i3c bytes
      { r.1 with paths := { r.1.paths with i3cRsp := some r.2 } }

/-- A private read returns the response, or is NACKed. -/
def doI3cRead (s : State) : State :=
  match s.paths.i3cRsp with
  | some r => emit { s with paths := { s.paths with i3cRsp := none } } (.i3cData r)
  | none => emit s .i3cNack

/-- The provisional ID in the random-value form, most significant byte first. PRESUMED (log entry 98). -/
def i3cPid (s : State) : List Byte :=
  (natToBytes (Config.i3cMaker.toNat * 2 ^ 33 + 2 ^ 32 + nodeId s % 2 ^ 32) 6).reverse

/-- The holder made no accepted write and no ACQUIRE for LOCK_TIMEOUT: `elapsed` in ms; 0 is no timeout. -/
def doLockTimeout (elapsed : Nat) (s : State) : State :=
  let t := odGet s 0x1100 0x06
  if t != 0 && t ≤ elapsed then { s with lock := {} } else s

/-! ### The commands -/

/-- An access without a row of its own (R139, R382, R391). -/
def doAccess (s : State) : RegAccess → Host.Outcome State Fault Refusal
  | .windowWrite t offset size data => withTap s t (doWindowWrite t offset size data)
  | .windowRead t offset size => withTap s t (doWindowRead t offset size)
  | .mailboxWrite offset size data => .next (mailboxWrite offset size data s)
  | .mailboxRead offset size => .next (emit s (.mailboxData (u32 (mailboxValue s offset size))))
  | .odWrite p i sub data => .next (requestWrite p i sub data s)
  | .odRead p i sub => .next (requestRead p i sub s)

/-- REGISTER_WRITE (R382). -/
def execRegisterWrite (a : RegAccess) (s : State) : Host.Outcome State Fault Refusal := doAccess s a
/-- GO (R392). -/
def execGo (v : U32) (s : State) : Host.Outcome State Fault Refusal := .next (doGo v s)
/-- MB_IRQ_WRITE (R391). -/
def execMbIrqWrite (v : U32) (s : State) : Host.Outcome State Fault Refusal := .next (doMbIrq v s)
/-- IB_TIMEOUT (R392). -/
def execIbTimeout (elapsed : Nat) (s : State) : Host.Outcome State Fault Refusal := .next (doIbTimeout elapsed s)
/-- IB_MESSAGE (R394). -/
def execIbMessage (port : PortRef) (m : IbMsg) (s : State) : Host.Outcome State Fault Refusal := withPort s port (doIbMessage port m)
/-- IB_FORWARD_KEY_EXPIRY (R394). -/
def execIbForwardKeyExpiry (src : U32) (tag : U16) (response : Bool) (elapsed : Nat) (s : State) : Host.Outcome State Fault Refusal :=
  .next (doForwardExpiry src tag response elapsed s)
/-- IB_KEPT_RESPONSE_EXPIRY (R395). -/
def execIbKeptResponseExpiry (src : U32) (tag : U16) (elapsed : Nat) (s : State) : Host.Outcome State Fault Refusal :=
  .next (doKeptExpiry src tag elapsed s)
/-- I3C_PRIVATE_WRITE (R398). -/
def execI3cPrivateWrite (bytes : List Byte) (s : State) : Host.Outcome State Fault Refusal := .next (doI3cWrite bytes s)
/-- I3C_PRIVATE_READ (R398). -/
def execI3cPrivateRead (s : State) : Host.Outcome State Fault Refusal := .next (doI3cRead s)
/-- ENTDAA (R397). -/
def execEntdaa (addr : BitVec 7) (s : State) : Host.Outcome State Fault Refusal := .next (odSet s 0x1100 0x0B addr.toNat)
/-- SETDASA (R397). -/
def execSetdasa (s : State) : Host.Outcome State Fault Refusal := .next (odSet s 0x1100 0x0B (odGet s 0x1100 0x0A))
/-- RSTDAA (R397). -/
def execRstdaa (s : State) : Host.Outcome State Fault Refusal := .next (odSet s 0x1100 0x0B 0)
/-- GETPID (R397). -/
def execGetpid (s : State) : Host.Outcome State Fault Refusal := .next (emit s (.i3cData (i3cPid s)))
/-- GETBCR (R397). -/
def execGetbcr (s : State) : Host.Outcome State Fault Refusal := .next (emit s (.i3cData [0]))
/-- GETDCR (R397). -/
def execGetdcr (s : State) : Host.Outcome State Fault Refusal := .next (emit s (.i3cData [0]))
/-- GETSTATUS (R397): the spec gives the two bytes no contents, a free value. PRESUMED (log entry 98). -/
def execGetstatus (s : State) : Host.Outcome State Fault Refusal := .next (emit (useFree s) (.i3cData (natToBytes (freeVal s) 2)))
/-- GETMWL (R397): 272, most significant byte first. PRESUMED (log entry 98). -/
def execGetmwl (s : State) : Host.Outcome State Fault Refusal := .next (emit s (.i3cData [1, 16]))
/-- GETMRL (R397): 272, most significant byte first. PRESUMED (log entry 98). -/
def execGetmrl (s : State) : Host.Outcome State Fault Refusal := .next (emit s (.i3cData [1, 16]))
/-- LOCK_TIMEOUT (R390). -/
def execLockTimeout (elapsed : Nat) (s : State) : Host.Outcome State Fault Refusal := .next (doLockTimeout elapsed s)

end Sys2Proof.Machine
end

