-- ==== Sys2Proof/Machine/Scrub.lean ====
section
/-! DEFINITION. Scrub passes and uncorrectable codewords (R353, R354). -/

namespace Sys2Proof.Machine

/-- E_ECC_UNCORR off a bucket's path: the location in the order of R354, and the address or offset of the codeword, which no rule maps. -/
def eccRecord (s : State) (kind obj loc : Nat) : State :=
  sump (useFree s) 0x000E 0 kind obj 0xFF 0xFFFFFF loc (u64 (freeVal s))

/-- A descriptor of a tap whose state is lost ends with E_ECC_UNCORR in its own completion queue. A record whose write is under way
stays as it is. -/
def loseFlight (s : State) (t : Nat) (e : FailInfo) (id : Nat) : State :=
  if (tapAt s t).mem.any fun r => r.id == id && r.role == .record then s
  else
    let s := onFlight s t id fun s f => countOut s t id f.planes
    let s := modFlight (dropReads (releaseTiles s t id) t id) t id fun f =>
      { f with status := 2, code := 0x000E, failed := some e, want := [], preWant := [], readDue := [], readOut := false }
    let s := modFlight s t id fun f => { f with phase := .recording, record := formRecord f }
    modTap s t fun x => { x with recQ := if x.recQ.contains id then x.recQ else x.recQ ++ [id] }

/-- The queue, completion state or duplicate window of tap `t` is lost: its descriptors end, then it is FENCED, as under R171.
DEDUCED (log entry 58). -/
def loseTap (s : State) (t : Nat) : State :=
  let r := sumpRec 0x000E 0 1 t 0xFF 0xFFFFFF 4 (u64 (freeVal s))
  let s := sumpWrite2 (useFree s) r none
  let e : FailInfo := { noFail with code := 0x000E, nodeId := u32 (nodeId s), objKind := 1, obj := t, sumpSeq := sumpSeqOf s r }
  let wasHead := match s.handoverQ with | h :: _ => h.1 == t | [] => false
  let s := { s with handoverQ := s.handoverQ.filter fun h => h.1 != t }
  let s := if wasHead && !s.offerDue then offerNext s else { s with offerDue := s.offerDue && !s.handoverQ.isEmpty }
  let s := modTap s t fun x => { x with dups := [] }
  let s := tryRecord (forAll ((tapAt s t).queue.map (·.id)) s fun s id => loseFlight s t e id) t
  let s := modTap s t fun x => { x with ignoreCore := true }
  match (tapAt s t).state with
  | .active => post (modTap s t fun x => { x with state := .saving, ctx := { fencing := true }, ctxStatus := 1, ctxReason := 0 }) (.ctxSaveDone t)
  | .unbound => modTap s t fun x => { x with state := .fenced }
  | .fenced => s
  | _ => modTap s t fun x => { x with ctx := { x.ctx with fencing := true } }

/-- The record of SEQ `seq` reads as E_ECC_UNCORR with OBJECT_KIND 6; nothing else of it is known. -/
def loseSumpRecord (s : State) (seq : Nat) : State :=
  let v := freeVal s
  let lost := fun (r : SumpRec) =>
    if r.seq.toNat = seq then
      { w0 := freeWord v 0, w1 := u64 (seq * 2 ^ 32 + 0x000E * 2 ^ 16 + 6), w2 := freeWord v 1, w3 := freeWord v 2 : SumpRec }
    else r
  useFree { s with sump := { s.sump with recs := s.sump.recs.map lost } }

/-- A microcode slot is lost: the engine runs from the other slot where that one is valid, and a swap that was pending is withdrawn
(R354). -/
def loseSlot (s : State) (n : Nat) : State :=
  let other := 1 - n
  let s := doCancel (odSet (setValid s n false) 0x7F00 (0x02 + n) 0)
  if odGet s 0x7F00 0x01 = n && bitOf (odGet s 0x7F00 0x04) other then odSet s 0x7F00 0x01 other else s

/-- What an uncorrectable codeword does where it is found. DEDUCED (log entries 39, 58, 102). -/
def eccFound (s : State) (l : EccLocation) : State :=
  match l with
  | .quernState q => if (quernAt s q).server.isSome && q < s.params.positions then checkFail s q none 0x0E 2 0 else s
  | .rootStage q => if (quernAt s q).server.isSome && q < s.params.positions then checkFail s q none 0x0E 5 0 else s
  | .tapState t => if t < s.params.taps then loseTap s t else s
  | .latticeRetry p => modLat s p fun x => { x with retry := match x.retry with | f :: r => { f with lost := true } :: r | [] => [] }
  | .aditRing a => modAdit s a fun x => { x with ring := match x.ring with | f :: r => { f with lost := true } :: r | [] => [] }
  | .flagMaster c =>
    if c < 16 then
      flagsWrite (sump s 0x000E 0 6 0 0xFF 0xFFFFFF 7 (u64 (32 * c))) (s.flags &&& ~~~(((2 ^ 256 - 1 : Nat) : BitVec 4096) <<< (256 * c)))
    else s
  | .aditLanding a seq =>
    if (aditAt s a).landing.any fun f => f.seq == seq && !f.lost then
      aditRecover (modAdit (eccRecord s 4 a 6) a fun x =>
        { x with landing := x.landing.map fun f => if f.seq = seq then { f with lost := true } else f }) a
    else s
  | .galleryEntry step bucket sel plane =>
    eccRecord { s with gallery := { s.gallery with rows := s.gallery.rows.map fun r =>
      if r.step.toNat = step then
        { r with entries := r.entries.filter fun e => !(e.bucket == bucket && e.sel == sel && e.plane == plane) }
      else r } } 6 0 8
  | .galleryRow step => eccRecord { s with gallery := { s.gallery with rows := s.gallery.rows.filter fun r => r.step.toNat != step } } 6 0 8
  | .object i sub =>
    let s := eccRecord (odSet s i sub (odReset s i sub)) 6 0 9
    { s with setup := { s.setup with objectLost :=
        if s.setup.objectLost.contains (i, sub) then s.setup.objectLost else s.setup.objectLost ++ [(i, sub)] } }
  | .microcode n => if n < 2 then loseSlot (eccRecord s 6 0 10) n else s
  | .sumpRecord seq => eccRecord (loseSumpRecord s seq) 6 0 11

/-- The quern that fails at a location. -/
def failingQuern (s : State) : EccLocation → Option Nat
  | .quernState q => some (quernNo s q)
  | .rootStage q => some (quernNo s q)
  | _ => none

/-- What a pass has found, the querns that fail first, in ascending number, in which order spares are assigned (R358). -/
def scrubOrder (s : State) (found : List EccLocation) : List EccLocation :=
  ((List.range s.params.querns).flatMap fun n => found.filter fun l => failingQuern s l == some n)
    ++ found.filter fun l => (failingQuern s l).isNone

/-- SCRUB_PASS: `elapsed` in ms since the last pass. -/
def doScrub (corrected : Nat) (found : List EccLocation) (elapsed : Nat) (s : State) : State :=
  if elapsed < 1000 then s
  else forAll (scrubOrder s found) (cntAdd (cnt s 0x7001 0x08) 0x7000 0x0E corrected) eccFound

/-- SCRUB_PASS (R353, R354). -/
def execScrubPass (corrected : Nat) (found : List EccLocation) (elapsed : Nat) (s : State) : Host.Outcome State Fault Refusal :=
  .next (doScrub corrected found elapsed s)

end Sys2Proof.Machine
end

