-- ==== Sys2Proof/Machine/TestAccess.lean ====
section
/-! DEFINITION. Test access: the boundary cells of the lanes (R433, R434) and the IEEE 1500 wrapper (R435, R436). -/

namespace Sys2Proof.Machine

/-- Change the test state. -/
def modTest (s : State) (f : TestAccess → TestAccess) : State := { s with testAcc := f s.testAcc }

/-! ### Boundary cells (R433, R434) -/

/-- Whether cell `i` is a transmit cell of a port in TEST: two cells a lane, by port, then lane, the transmit cell first. -/
def cellDrives (s : State) (i : Nat) : Bool := i % 2 == 0 && (latAt s (i / 16)).state == .test

/-- A capture, and an update of the cells of ports in TEST; their transmit lanes follow. -/
def boundaryDrive (cells pins : List Bool) (s : State) : State :=
  let inTest := fun (i : Nat) => (latAt s (i / 16)).state == .test
  let new := (List.range (16 * s.params.latticePorts)).map fun i =>
    if inTest i then cells.getD i false else s.testAcc.cells.getD i false
  let s := modTest s fun x => { x with captured := pins, cells := new }
  emit s (.testData ((new.zipIdx.filter fun (_, i) => cellDrives s i).map fun c => c.1))

/-- A capture and a preload: nothing is driven. -/
def boundarySample (cells pins : List Bool) (s : State) : State := modTest s fun x => { x with captured := pins, cells := cells }

/-! ### The wrapper (R435, R436) -/

/-- Bits of a free value. DESIGN CHOICE (log entry 59). -/
def freeBits (v n : Nat) : List Bool := (List.range n).map fun i => bitOf v i

/-- What the wrapper cells capture is not stated: a free value. DESIGN CHOICE (log entry 59). -/
def wrapCapture (s : State) : State :=
  modTest (useFree s) fun x => { x with wrapCaptured := freeBits (freeVal s) x.wrapCells.length }

/-- What the wrapper presents at the block's inputs in place of the pins: its cells, under WS_INTEST. The block, held in reset, does nothing
with them. -/
def scanInputs (s : State) : Option (List Bool) :=
  if s.testAcc.mode && s.testAcc.wir == 2 then some s.testAcc.wrapCells else none

/-- The contents of the fabric and lane SRAMs are destroyed; the block is in reset, so the on-die Gallery is what is left of them. -/
def destroySrams (s : State) : State := { s with gallery := {} }

/-- A result in the wrapper data register, of which no rule gives the value. -/
def wrapResult (s : State) : State :=
  emit (modTest (useFree s) fun x => { x with result := some (freeVal s) }) (.testWord (freeVal s))

/-- The retained objects of the instance, with their subindices. -/
def retainedKeys (s : State) : List (Nat × Nat) :=
  let idx := [0x1100, 0x4110, 0x6020, 0x6040, 0x6041, 0x6042, 0x7010, 0x7F00]
    ++ (List.range s.params.latticePorts).map (0x4000 + ·) ++ (List.range s.params.aditPorts).map (0x4100 + ·)
  idx.flatMap fun i => ((List.range 256).filter fun sub => retained i sub && (objRow s i sub).isSome).map fun sub => (i, sub)

/-- WS_MBIST_AON: the microcode slots, the sump and every retained object hold no known value any more. -/
def destroyAon (s : State) : State :=
  let v := freeVal s
  let w := fun (i : Nat) => freeWord v i
  let keys := retainedKeys s
  let s := forAll keys.zipIdx (useFree s) fun a (key, j) =>
    let n := match objRow a key.1 key.2 with
      | some r => if r.ty == .bool then 1 else 8 * r.ty.bytes
      | none => 0
    odSet a key.1 key.2 (keepBits a key.1 key.2 ((w j).toNat % 2 ^ n))
  let recs := (List.range 1024).map fun i =>
    ({ w0 := w (1000 + 4 * i), w1 := w (1001 + 4 * i), w2 := w (1002 + 4 * i), w3 := w (1003 + 4 * i) } : SumpRec)
  let s := { s with
    sump := { recs := recs, nextSeq := u32 (w 5100).toNat, first := some { w0 := w 5101, w1 := w 5102, w2 := w 5103, w3 := w 5104 } }
    ucode := Memory.writeBytes 0 (natToBytes (v / 2 ^ (64 * 5200)) (2 * ucodeBytes)) [] }
  modTest s fun x => { x with needPor := true }

/-- What wrapper instruction `n` does while nl_test_mode is high (R435, R436). -/
def wrapRun (n : Nat) (s : State) : State :=
  match n with
  | 1 => emit (wrapCapture s) (.testData s.testAcc.wrapCells)
  | 2 => wrapCapture s
  | 3 => wrapResult (destroySrams s)
  | 4 => wrapResult (destroySrams s)
  | 5 => wrapResult (destroyAon s)
  | 6 => wrapResult s
  | _ => s

/-- Wrapper instruction `n` is loaded; while nl_test_mode is low it acts as WS_BYPASS. -/
def wrapper (s : State) (n : Nat) : State :=
  let s := modTest s fun x => { x with wir := BitVec.ofNat 3 n }
  if s.testAcc.mode then wrapRun n s else s

/-- Data shifted into the wrapper cells; under WS_BYPASS none are. -/
def wrapLoad (s : State) (cells : List Bool) : State := if s.testAcc.mode then modTest s fun x => { x with wrapCells := cells } else s

/-- TEST_MODE_RISE: the block is held in block reset with every port DISABLED, and the instruction that is loaded has its effect.
DEDUCED (log entry 59). -/
def doTestRise (s : State) : State :=
  if s.testAcc.mode then s else wrapRun s.testAcc.wir.toNat (blockReset (modTest s fun x => { x with mode := true }) 1)

/-! ### The commands -/

/-- TEST_MODE_RISE (R436). -/
def execTestModeRise (s : State) : Host.Outcome State Fault Refusal := .next (doTestRise s)
/-- WS_BYPASS, loaded by code 0x0 or by the reserved code 0x7 (R435); by which of the two is a free value. DESIGN CHOICE (log entry 59). -/
def execWsBypass (s : State) : Host.Outcome State Fault Refusal := .next (wrapper (useFree s) (if freeVal s % 2 = 1 then 7 else 0))
/-- WS_EXTEST (R435). -/
def execWsExtest (cells : List Bool) (s : State) : Host.Outcome State Fault Refusal := .next (wrapper (wrapLoad s cells) 1)
/-- WS_INTEST (R435). -/
def execWsIntest (cells : List Bool) (s : State) : Host.Outcome State Fault Refusal := .next (wrapper (wrapLoad s cells) 2)
/-- WP_SCAN (R435, R436). -/
def execWpScan (s : State) : Host.Outcome State Fault Refusal := .next (wrapper s 3)
/-- WS_MBIST (R435, R436). -/
def execWsMbist (s : State) : Host.Outcome State Fault Refusal := .next (wrapper s 4)
/-- WS_MBIST_AON (R435, R436). -/
def execWsMbistAon (s : State) : Host.Outcome State Fault Refusal := .next (wrapper s 5)
/-- WS_LANE_LOOP (R435). -/
def execWsLaneLoop (s : State) : Host.Outcome State Fault Refusal := .next (wrapper s 6)
/-- EXTEST (R434). -/
def execExtest (cells pins : List Bool) (s : State) : Host.Outcome State Fault Refusal := .next (boundaryDrive cells pins s)
/-- SAMPLE_PRELOAD (R433). -/
def execSamplePreload (cells pins : List Bool) (s : State) : Host.Outcome State Fault Refusal := .next (boundarySample cells pins s)
/-- EXTEST_PULSE (R433). -/
def execExtestPulse (cells pins : List Bool) (s : State) : Host.Outcome State Fault Refusal := .next (boundaryDrive cells pins s)
/-- EXTEST_TRAIN (R433). -/
def execExtestTrain (cells pins : List Bool) (s : State) : Host.Outcome State Fault Refusal := .next (boundaryDrive cells pins s)

end Sys2Proof.Machine
end

