-- ==== Sys2Proof/Machine/Held.lean ====
section
/-! DEFINITION. Accesses that waited for a clock, a wake or the millwright engine, and the events that let them through (R196, R197,
R387, R408, R414, R416, R425, R436). -/

namespace Sys2Proof.Machine

/-- An access that waited is tried again, as it arrived. -/
def serveHeld (s : State) (c : Instr) : State :=
  match c with
  | .flagSet t v => doFlagWrite c t v true s
  | .flagClear t v => doFlagWrite c t v false s
  | .claim t flag size => doClaim c t flag size s
  | .poll t offset size => doPoll c t offset size s
  | .sluicePoll t drive => doSluicePoll t drive s
  | .sluiceArrive t v => doSluiceArrive t v s
  | .registerWrite (.odWrite p i sub data) => requestWrite p i sub data s
  | .registerWrite (.odRead p i sub) => requestRead p i sub s
  | .restore p t image => requestImage p t 2 image s
  | .restoreFlags p t image => requestImage p t 3 image s
  | .ibMessage port m => doIbMessage port m s
  | .go v => doGo v s
  | .i3cPrivateWrite bytes => doI3cWrite bytes s
  | _ => s

/-- The accesses that wait for `h` are let through at once, in the order of their arrival, before anything that comes later (R196,
R387). One that still cannot proceed waits again. -/
def release (s : State) (h : HoldFor) : State :=
  forAll ((s.held.filter fun x => x.1 == h).map Prod.snd) { s with held := s.held.filter fun x => x.1 != h } serveHeld

/-- FABRIC_CLOCK_STARTED: what waited for the domain proceeds. -/
def doClockStarted (d : Option Nat) (s : State) : State :=
  if s.power.starting.contains d then
    let p := { s.power with starting := s.power.starting.erase d }
    let p := match d with
      | none => { p with common := true }
      | some k => { p with planes := p.planes ||| (1 : BitVec 8) <<< k }
    resumeWork (release { s with power := p } (.clock d))
  else s

/-- DORMANT_WAKE_DONE: the instance runs, its lattice ports leave QUIET, and what waited proceeds. An adit port stays in QUIET until its
first DATA frame (R302). -/
def doWakeDone (s : State) : State :=
  if s.power.state == .waking then
    let s := { s with
      power := { s.power with state := .running }
      lattice := s.lattice.map fun x => if x.state == .quiet then { x with state := .active } else x }
    let s := release s .wake
    resumeWork (if s.taps.any tapBusy then startFabric s else s)
  else s

/-- MICROCODE_SWAP_DONE. -/
def doSwapDone (s : State) : State :=
  if !s.swapping then s
  else release (flushSump (odSet (odSet s 0x7F00 0x01 (idleSlot s)) 0x7F00 0x0A 5)) .engine

/-- BLOCK_RESET_DONE: a block or power-on reset completes; the engine serves what waited. Test mode holds the block (R436). -/
def doResetDone (s : State) : State :=
  if !s.resetting || s.testAcc.mode || s.testAcc.needPor then s
  else release (portsAfterReset { s with resetting := false }) .engine

/-- TEST_MODE_FALL: the hold ends, and with it the block reset. After WS_MBIST_AON a power-on reset must come first. -/
def doTestFall (s : State) : State :=
  if s.testAcc.mode then doResetDone (modTest s fun x => { x with mode := false, wir := 0 }) else s

/-! ### The commands -/

/-- FABRIC_CLOCK_STARTED (R408). -/
def execFabricClockStarted (plane : Option Nat) (s : State) : Host.Outcome State Fault Refusal := withDomain s plane (doClockStarted plane)
/-- DORMANT_WAKE_DONE (R413). -/
def execDormantWakeDone (s : State) : Host.Outcome State Fault Refusal := .next (doWakeDone s)
/-- MICROCODE_SWAP_DONE (R425). -/
def execMicrocodeSwapDone (s : State) : Host.Outcome State Fault Refusal := .next (doSwapDone s)
/-- BLOCK_RESET_DONE (R416). -/
def execBlockResetDone (s : State) : Host.Outcome State Fault Refusal := .next (doResetDone s)
/-- TEST_MODE_FALL (R436). -/
def execTestModeFall (s : State) : Host.Outcome State Fault Refusal := .next (doTestFall s)

end Sys2Proof.Machine
end

