-- ==== Sys2Proof/Machine/Dispatch.lean ====
section
/-! DEFINITION. The meaning of every command, one arm for each constructor of `Instr`. -/

namespace Sys2Proof.Machine

/-- The effect of a command on everything but the queue. -/
def exec (i : Instr) (s : State) : Host.Outcome State Fault Refusal :=
  match i with
  | .descPost t w => Sys2Proof.Machine.execDescPost t w s
  | .cqHeadWrite t v => Sys2Proof.Machine.execCqHeadWrite t v s
  | .flagSet t v => Sys2Proof.Machine.execFlagSet t v s
  | .flagClear t v => Sys2Proof.Machine.execFlagClear t v s
  | .claim t flag size => Sys2Proof.Machine.execClaim t flag size s
  | .poll t offset size => Sys2Proof.Machine.execPoll t offset size s
  | .sluicePoll t drive => Sys2Proof.Machine.execSluicePoll t drive s
  | .sluiceArrive t v => Sys2Proof.Machine.execSluiceArrive t v s
  | .sluiceBlankingEnd g elapsed => Sys2Proof.Machine.execSluiceBlankingEnd g elapsed s
  | .sluiceMemberWrite p t v => Sys2Proof.Machine.execSluiceMemberWrite p t v s
  | .registerWrite a => Sys2Proof.Machine.execRegisterWrite a s
  | .descStart t => Sys2Proof.Machine.execDescStart t s
  | .memReadResponse port tag data poison u => Sys2Proof.Machine.execMemReadResponse port tag data poison u s
  | .memWriteResponse port tag werr => Sys2Proof.Machine.execMemWriteResponse port tag werr s
  | .tileSettled t => Sys2Proof.Machine.execTileSettled t s
  | .drainTimeout t elapsed => Sys2Proof.Machine.execDrainTimeout t elapsed s
  | .handoverAccept => Sys2Proof.Machine.execHandoverAccept s
  | .segment q input m u => Sys2Proof.Machine.execSegment q input m u s
  | .spareSwitchDone spare => Sys2Proof.Machine.execSpareSwitchDone spare s
  | .waitingSegmentAccepted q input => Sys2Proof.Machine.execWaitingSegmentAccepted q input s
  | .prepass q input m => Sys2Proof.Machine.execPrepass q input m s
  | .prepassAnswer u m => Sys2Proof.Machine.execPrepassAnswer u m s
  | .result u m => Sys2Proof.Machine.execResult u m s
  | .commit u m => Sys2Proof.Machine.execCommit u m s
  | .retry u m => Sys2Proof.Machine.execRetry u m s
  | .statsRow u m => Sys2Proof.Machine.execStatsRow u m s
  | .statsPartial u m => Sys2Proof.Machine.execStatsPartial u m s
  | .statsPass q input m u => Sys2Proof.Machine.execStatsPass q input m u s
  | .statsMerged u m => Sys2Proof.Machine.execStatsMerged u m s
  | .openNote q input m => Sys2Proof.Machine.execOpenNote q input m s
  | .abort a0 m => Sys2Proof.Machine.execAbort a0 m s
  | .barrierArrive q input m => Sys2Proof.Machine.execBarrierArrive q input m s
  | .barrierRelease u m => Sys2Proof.Machine.execBarrierRelease u m s
  | .stepArrive q input m => Sys2Proof.Machine.execStepArrive q input m s
  | .stepRelease u m => Sys2Proof.Machine.execStepRelease u m s
  | .pause q input m => Sys2Proof.Machine.execPause q input m s
  | .resume q input m => Sys2Proof.Machine.execResume q input m s
  | .spanReport port m => Sys2Proof.Machine.execSpanReport port m s
  | .bucketTimeout q plane bucket step elapsed => Sys2Proof.Machine.execBucketTimeout q plane bucket step elapsed s
  | .tapBackstopTimeout t bucket step elapsed => Sys2Proof.Machine.execTapBackstopTimeout t bucket step elapsed s
  | .pauseCmdPause p => Sys2Proof.Machine.execPauseCmdPause p s
  | .pauseCmdResume p => Sys2Proof.Machine.execPauseCmdResume p s
  | .pauseExpiry q elapsed => Sys2Proof.Machine.execPauseExpiry q elapsed s
  | .pollWatchdog t elapsed => Sys2Proof.Machine.execPollWatchdog t elapsed s
  | .odFlagSet p v => Sys2Proof.Machine.execOdFlagSet p v s
  | .odFlagClear p v => Sys2Proof.Machine.execOdFlagClear p v s
  | .gtcTick => Sys2Proof.Machine.execGtcTick s
  | .timeReqSend elapsed => Sys2Proof.Machine.execTimeReqSend elapsed s
  | .timeReq port m => Sys2Proof.Machine.execTimeReq port m s
  | .timeResp port m => Sys2Proof.Machine.execTimeResp port m s
  | .servoWindow => Sys2Proof.Machine.execServoWindow s
  | .holdoverMaxExpiry elapsed => Sys2Proof.Machine.execHoldoverMaxExpiry elapsed s
  | .gtcSet p v => Sys2Proof.Machine.execGtcSet p v s
  | .arm p => Sys2Proof.Machine.execArm p s
  | .disarm p => Sys2Proof.Machine.execDisarm p s
  | .launchLead => Sys2Proof.Machine.execLaunchLead s
  | .launchFire => Sys2Proof.Machine.execLaunchFire s
  | .laneSignalDetect port lane => Sys2Proof.Machine.execLaneSignalDetect port lane s
  | .laneSignalLoss port lanes => Sys2Proof.Machine.execLaneSignalLoss port lanes s
  | .absentBurst port elapsed => Sys2Proof.Machine.execAbsentBurst port elapsed s
  | .trainingBlock port lane mirrored bytes => Sys2Proof.Machine.execTrainingBlock port lane mirrored bytes s
  | .trainingComplete port => Sys2Proof.Machine.execTrainingComplete port s
  | .flitTx port => Sys2Proof.Machine.execFlitTx port s
  | .flitRx port bytes fecFail corrected => Sys2Proof.Machine.execFlitRx port bytes fecFail corrected s
  | .lcf port info => Sys2Proof.Machine.execLcf port info s
  | .lcfInterval port elapsed => Sys2Proof.Machine.execLcfInterval port elapsed s
  | .replayTimer port elapsed => Sys2Proof.Machine.execReplayTimer port elapsed s
  | .linkRecoveryTimeout port elapsed => Sys2Proof.Machine.execLinkRecoveryTimeout port elapsed s
  | .latticeEnable p port => Sys2Proof.Machine.execLatticeEnable p port s
  | .latticeDisable p port => Sys2Proof.Machine.execLatticeDisable p port s
  | .retrain p port => Sys2Proof.Machine.execRetrain p port s
  | .test p port => Sys2Proof.Machine.execTest p port s
  | .quietEntry port => Sys2Proof.Machine.execQuietEntry port s
  | .quietRefresh port elapsed => Sys2Proof.Machine.execQuietRefresh port elapsed s
  | .aditLinkUp a => Sys2Proof.Machine.execAditLinkUp a s
  | .aditLinkDown a => Sys2Proof.Machine.execAditLinkDown a s
  | .data a frame err => Sys2Proof.Machine.execData a frame err s
  | .ctrl a frame err => Sys2Proof.Machine.execCtrl a frame err s
  | .hello a frame err => Sys2Proof.Machine.execHello a frame err s
  | .helloTimer a elapsed => Sys2Proof.Machine.execHelloTimer a elapsed s
  | .aditFrameTx a => Sys2Proof.Machine.execAditFrameTx a s
  | .frameHoldExpiry a stream elapsed => Sys2Proof.Machine.execFrameHoldExpiry a stream elapsed s
  | .keepalive a elapsed => Sys2Proof.Machine.execKeepalive a elapsed s
  | .keepaliveDormant a elapsed => Sys2Proof.Machine.execKeepaliveDormant a elapsed s
  | .resendTimer a elapsed => Sys2Proof.Machine.execResendTimer a elapsed s
  | .silence a elapsed => Sys2Proof.Machine.execSilence a elapsed s
  | .aditRecoveryTimeout a elapsed => Sys2Proof.Machine.execAditRecoveryTimeout a elapsed s
  | .landingDeliver a stream => Sys2Proof.Machine.execLandingDeliver a stream s
  | .aditQuietEntry a => Sys2Proof.Machine.execAditQuietEntry a s
  | .aditEnable p a => Sys2Proof.Machine.execAditEnable p a s
  | .aditDisable p a => Sys2Proof.Machine.execAditDisable p a s
  | .restart p a => Sys2Proof.Machine.execRestart p a s
  | .scrubPass corrected found elapsed => Sys2Proof.Machine.execScrubPass corrected found elapsed s
  | .replanTimeout t bucket step elapsed => Sys2Proof.Machine.execReplanTimeout t bucket step elapsed s
  | .spareIn p q spare => Sys2Proof.Machine.execSpareIn p q spare s
  | .countRebase p planes => Sys2Proof.Machine.execCountRebase p planes s
  | .sumpClear p => Sys2Proof.Machine.execSumpClear p s
  | .injArm p => Sys2Proof.Machine.execInjArm p s
  | .injDisarm p => Sys2Proof.Machine.execInjDisarm p s
  | .countersClear p => Sys2Proof.Machine.execCountersClear p s
  | .go v => Sys2Proof.Machine.execGo v s
  | .mbIrqWrite v => Sys2Proof.Machine.execMbIrqWrite v s
  | .ibTimeout elapsed => Sys2Proof.Machine.execIbTimeout elapsed s
  | .ibMessage port m => Sys2Proof.Machine.execIbMessage port m s
  | .ibForwardKeyExpiry src tag response elapsed => Sys2Proof.Machine.execIbForwardKeyExpiry src tag response elapsed s
  | .ibKeptResponseExpiry src tag elapsed => Sys2Proof.Machine.execIbKeptResponseExpiry src tag elapsed s
  | .i3cPrivateWrite bytes => Sys2Proof.Machine.execI3cPrivateWrite bytes s
  | .i3cPrivateRead => Sys2Proof.Machine.execI3cPrivateRead s
  | .entdaa addr => Sys2Proof.Machine.execEntdaa addr s
  | .setdasa => Sys2Proof.Machine.execSetdasa s
  | .rstdaa => Sys2Proof.Machine.execRstdaa s
  | .getpid => Sys2Proof.Machine.execGetpid s
  | .getbcr => Sys2Proof.Machine.execGetbcr s
  | .getdcr => Sys2Proof.Machine.execGetdcr s
  | .getstatus => Sys2Proof.Machine.execGetstatus s
  | .getmwl => Sys2Proof.Machine.execGetmwl s
  | .getmrl => Sys2Proof.Machine.execGetmrl s
  | .acquire p => Sys2Proof.Machine.execAcquire p s
  | .release p => Sys2Proof.Machine.execRelease p s
  | .breakLock p => Sys2Proof.Machine.execBreakLock p s
  | .lockTimeout elapsed => Sys2Proof.Machine.execLockTimeout elapsed s
  | .prepare p => Sys2Proof.Machine.execPrepare p s
  | .epochExchange port info => Sys2Proof.Machine.execEpochExchange port info s
  | .prepareChildTimeout elapsed => Sys2Proof.Machine.execPrepareChildTimeout elapsed s
  | .apply p => Sys2Proof.Machine.execApply p s
  | .abandon p => Sys2Proof.Machine.execAbandon p s
  | .stdAssign p => Sys2Proof.Machine.execStdAssign p s
  | .drain p plane => Sys2Proof.Machine.execDrain p plane s
  | .planeDrained plane => Sys2Proof.Machine.execPlaneDrained plane s
  | .undrain p plane => Sys2Proof.Machine.execUndrain p plane s
  | .save p t => Sys2Proof.Machine.execSave p t s
  | .ctxSaveDone t => Sys2Proof.Machine.execCtxSaveDone t s
  | .restore p t image => Sys2Proof.Machine.execRestore p t image s
  | .restoreFlags p t image => Sys2Proof.Machine.execRestoreFlags p t image s
  | .fence p t => Sys2Proof.Machine.execFence p t s
  | .fetchEntry p => Sys2Proof.Machine.execFetchEntry p s
  | .fetchRowHeader p => Sys2Proof.Machine.execFetchRowHeader p s
  | .galleryClear p => Sys2Proof.Machine.execGalleryClear p s
  | .capArm p => Sys2Proof.Machine.execCapArm p s
  | .capDisarm p => Sys2Proof.Machine.execCapDisarm p s
  | .begin p => Sys2Proof.Machine.execBegin p s
  | .loadData p bytes => Sys2Proof.Machine.execLoadData p bytes s
  | .seal p => Sys2Proof.Machine.execSeal p s
  | .swap p => Sys2Proof.Machine.execSwap p s
  | .cancel p => Sys2Proof.Machine.execCancel p s
  | .microcodeSwapExec => Sys2Proof.Machine.execMicrocodeSwapExec s
  | .microcodeSwapDone => Sys2Proof.Machine.execMicrocodeSwapDone s
  | .enter p => Sys2Proof.Machine.execEnter p s
  | .wake p => Sys2Proof.Machine.execWake p s
  | .autoDormantExpiry elapsed => Sys2Proof.Machine.execAutoDormantExpiry elapsed s
  | .dormantEntry => Sys2Proof.Machine.execDormantEntry s
  | .dormantWakeDone => Sys2Proof.Machine.execDormantWakeDone s
  | .fabricClockStop plane elapsed => Sys2Proof.Machine.execFabricClockStop plane elapsed s
  | .profileReqWrite p v => Sys2Proof.Machine.execProfileReqWrite p v s
  | .profileChangeDone => Sys2Proof.Machine.execProfileChangeDone s
  | .fclkReqWrite p v => Sys2Proof.Machine.execFclkReqWrite p v s
  | .throttleRise => Sys2Proof.Machine.execThrottleRise s
  | .throttleFall => Sys2Proof.Machine.execThrottleFall s
  | .vidAck => Sys2Proof.Machine.execVidAck s
  | .powerOnReset nodeId i3cAddr => Sys2Proof.Machine.execPowerOnReset nodeId i3cAddr s
  | .blockResetPin => Sys2Proof.Machine.execBlockResetPin s
  | .resetBlock p => Sys2Proof.Machine.execResetBlock p s
  | .blockResetDone => Sys2Proof.Machine.execBlockResetDone s
  | .resetPlanes p planes => Sys2Proof.Machine.execResetPlanes p planes s
  | .resetLattice p port => Sys2Proof.Machine.execResetLattice p port s
  | .resetAdit p a => Sys2Proof.Machine.execResetAdit p a s
  | .resetTap p t => Sys2Proof.Machine.execResetTap p t s
  | .testModeRise => Sys2Proof.Machine.execTestModeRise s
  | .wsBypass => Sys2Proof.Machine.execWsBypass s
  | .wsExtest cells => Sys2Proof.Machine.execWsExtest cells s
  | .wsIntest cells => Sys2Proof.Machine.execWsIntest cells s
  | .wpScan => Sys2Proof.Machine.execWpScan s
  | .wsMbist => Sys2Proof.Machine.execWsMbist s
  | .wsMbistAon => Sys2Proof.Machine.execWsMbistAon s
  | .wsLaneLoop => Sys2Proof.Machine.execWsLaneLoop s
  | .extest cells pins => Sys2Proof.Machine.execExtest cells pins s
  | .samplePreload cells pins => Sys2Proof.Machine.execSamplePreload cells pins s
  | .extestPulse cells pins => Sys2Proof.Machine.execExtestPulse cells pins s
  | .extestTrain cells pins => Sys2Proof.Machine.execExtestTrain cells pins s
  | .testModeFall => Sys2Proof.Machine.execTestModeFall s
  | .coreDrainValid t beat => Sys2Proof.Machine.execCoreDrainValid t beat s
  | .fabricClockStarted plane => Sys2Proof.Machine.execFabricClockStarted plane s

end Sys2Proof.Machine
end

