-- ==== Sys2Proof/Machine/Step.lean ====
section
/-! DEFINITION. One step of the block: the command at the front of the queue, or the oldest message in flight
between units of the die, or nothing. -/

namespace Sys2Proof.Machine

/-- One step. DESIGN CHOICE (log entry 4): with no command waiting, the oldest message in flight on the die is
delivered; with none of either, the block idles: an APPLY that was under way is over, and a due handover offer is made (log entries 42,
77). -/
def step (s : State) : Host.Outcome State Fault Refusal :=
  match s.pending with
  | c :: rest => exec c { s with pending := rest }
  | [] =>
    match s.onDie with
    | c :: rest => exec c { s with onDie := rest }
    | [] => .next (atRest s)

/-- The state with the command that a table word spells put in front of the queue. No row of the table gives
bits, so no word spells a command. -/
def State.withFetchWord (s : State) (nbits w : Nat) : State :=
  match Sys2Proof.decodeTableWord nbits w with
  | some c => { s with pending := c :: s.pending }
  | none => s

end Sys2Proof.Machine
end

