-- ==== Sys2Proof/Safety.lean ====
section
/-! DEFINITION. What counts as a safe run, and the terms in which claims speak of a state: its shape, the objects that a
command may change, and what an accepted request of a management path is. -/

namespace Sys2Proof.Safety

open Sys2Proof.Machine

/-- The outcome is a next state. -/
def completes : Host.Outcome State Fault Refusal → Prop
  | .next _ => True
  | .fault _ => False
  | .refused _ => False

/-- The first `k` steps from `s` all answer a next state. -/
def runsFor : Nat → State → Prop
  | 0, _ => True
  | k + 1, s => ∃ s', step s = .next s' ∧ runsFor k s'

/-- The shape of an instance: parameters in the ranges of R24, one record for each unit it has, the microcode bytes in
canonical form, and at most 1024 records in the sump. -/
structure Shaped (s : State) : Prop where
  supported : s.params.supported = true
  taps : s.taps.length = s.params.taps
  querns : s.querns.length = s.params.positions
  lattice : s.lattice.length = s.params.latticePorts
  adits : s.adits.length = s.params.aditPorts
  ucode : s.ucode.wf = true
  sump : s.sump.recs.length ≤ 1024

/-- The command answers a next state that has the property. -/
def gives (c : Instr) (s : State) (P : State → Prop) : Prop := ∃ t, exec c s = .next t ∧ P t

/-- Every object but the listed ones (index, subindex) reads as before. -/
def onlyObjects (s t : State) (keys : List (Nat × Nat)) : Prop :=
  ∀ i sub, sub < 256 → (i, sub) ∉ keys → odGet t i sub = odGet s i sub

/-- A request of path `p` reaches its checks: the parameters are supported, no block reset and no microcode swap holds the engine, and
the path is enabled (R389, R416, R425). -/
structure Reaches (s : State) (p : Path) : Prop where
  supported : s.params.supported = true
  notResetting : s.resetting = false
  notSwapping : s.swapping = false
  enabled : pathOn s p = true

/-- A request of path `p` may write: it also holds the lock (R389). -/
structure Serves (s : State) (p : Path) : Prop extends Reaches s p where
  lock : s.lock.holder = some p

/-- The state in which the rule of an object runs: the request is counted, and the clock domain that holds the object's state starts
(R404, R408). -/
def ready (s : State) (i : Nat) : State := startFor (cnt s 0x7001 0x02) i

/-- The command of path `p` completes: it leaves `t` and drives the response with STATUS OK. -/
def acceptedAs (c : Instr) (s : State) (p : Path) (t : State) : Prop := exec c s = .next (emit t (.odResponse p 0 []))

/-- The same with a state that has the property. -/
def accepted (c : Instr) (s : State) (p : Path) (P : State → Prop) : Prop := ∃ t, acceptedAs c s p t ∧ P t

/-- The command of path `p` is answered with a STATUS other than OK, which is counted; it leaves `t` beside that. -/
def declinedAs (c : Instr) (s : State) (p : Path) (status : Nat) (t : State) : Prop :=
  exec c s = .next (emit (refused t status) (.odResponse p status []))

/-- The command does what a write of the `len` bytes of `v` to the object by path `p` does. -/
def isWrite (c : Instr) (s : State) (p : Path) (i sub v len : Nat) : Prop :=
  exec c s = exec (.registerWrite (.odWrite p i sub (natToBytes v len))) s

/-- An in-band message as a port took it: its arrival port in RET_PATH, one hop more (R394). -/
def hopped (m : IbMsg) (port : PortRef) : IbMsg := { m with retPath := m.retPath.set m.hops (byteOfPort port), hops := m.hops + 1 }

/-- The command answers the in-band request `m` that came by `port` with `rsp`, after `u`: one response in RMODE 2 whose path is that of
the request backward leaves on `port`, or is dropped and counted where the port does not carry virtual channel 3 (R395). -/
def answers (c : Instr) (s u : State) (port : PortRef) (m : IbMsg) (rsp : List Byte) : Prop :=
  ∃ r : IbMsg, r.rmode = 2 ∧ r.hops = 0 ∧ r.response = true ∧ r.pathLen = m.hops + 1 ∧ r.srcNode = u32 (nodeId u) ∧ r.request = rsp ∧
    r.fwdPath.getD 0 0xFF = byteOfPort port ∧ (∀ i, i < m.hops → r.fwdPath.getD (i + 1) 0xFF = m.retPath.getD (m.hops - 1 - i) 0xFF) ∧
    exec c s = .next (if portUp u port then queueFlits { u with freeCount := u.freeCount + 1 } port (flitsOf 3 0 0 (ibBytes r))
                      else cnt { u with freeCount := u.freeCount + 1 } 0x7001 0x05)

/-- Every tap but `t` is as before. -/
def otherTaps (s s' : State) (t : Nat) : Prop := ∀ u, u ≠ t → tapAt s' u = tapAt s u

/-- Tap `t` has failed its entry `f`: the entry takes no more part, and an ABORT with `code` goes up each of its planes (R132, R153). -/
def tapFailed (s' : State) (t : Nat) (f : Flight) (code : Nat) : Prop :=
  (∃ g ∈ (tapAt s' t).queue, g.id = f.id ∧ g.failing = true) ∧
  ∀ k ∈ f.planes, ∃ m : Message, .abort (.up (t / 16) (t % 16)) m ∈ s'.onDie ∧ m.plane = k ∧ m.bucket = f.desc.bucket ∧
    m.step = f.desc.step ∧ (failInfoOf m).code = code

/-- The command fails the bucket of `m` at position `q` with a failure that has the property: the position keeps neither an entry nor a
closed key of the bucket, and one ABORT goes toward the plane root, or from there down every input (R132, R356); beside that, at most a
message that waits at an input is offered again. -/
def quernAborts (c : Instr) (s : State) (q : Nat) (m : Message) (P : State → FailInfo → Prop) : Prop :=
  ∃ (u : State) (a : Message) (t : State), a.code = .abort ∧ a.plane = m.plane ∧ a.bucket = m.bucket ∧ a.step = m.step ∧
    findEntry (quernAt u q) m.bucket m.step m.plane = none ∧ findClosed (quernAt u q) m.bucket m.step m.plane = none ∧
    u.taps = s.taps ∧ P u (failInfoOf a) ∧ t = (if isRoot s q m.plane then quernDownAll u q a else quernUp u q a) ∧
    (exec c s = .next t ∨ ∃ i, exec c s = .next (post t (.waitingSegmentAccepted q i)))

/-- The quern of position `q` is fenced for a failure of `code`: nothing it held is left, a spare takes the position where one is free,
and an ABORT went toward the plane root for each bucket it had open (R355). -/
def quernFenced (s s' : State) (q code : Nat) : Prop :=
  quernNo s q ∈ s'.fencedQuerns ∧ (quernAt s' q).server = none ∧ (quernAt s' q).switching = findSpare s q ∧ (quernAt s' q).entries = [] ∧
  (∃ f, (quernAt s' q).fenceFail = some f ∧ f.code = code ∧ f.obj = quernNo s q) ∧
  ∀ e ∈ (quernAt s q).entries, isRoot s q e.plane = false → ∀ p i, quernOut s q e.plane = .quern p i →
    ∃ a : Message, .abort (.up p i) a ∈ s'.onDie ∧ a.plane = e.plane ∧ a.bucket = e.bucket ∧ a.step = e.step ∧ (failInfoOf a).code = code

/-- What waited for `h` is let through, in the order in which it came and before anything later; the rest waits on (R196, R387). -/
def letThrough (s : State) (h : HoldFor) : State :=
  forAll ((s.held.filter fun x => x.1 == h).map Prod.snd) { s with held := s.held.filter fun x => x.1 != h } serveHeld

/-- An access that can be held, and whose unit the instance has. -/
def mayWait (s : State) : Instr → Prop
  | .flagSet t _ | .flagClear t _ | .claim t _ _ | .poll t _ _ | .sluicePoll t _ | .sluiceArrive t _ => t < s.params.taps
  | .registerWrite (.odWrite _ _ _ _) | .registerWrite (.odRead _ _ _) | .restore _ _ _ | .restoreFlags _ _ _ | .go _
  | .i3cPrivateWrite _ => True
  | .ibMessage (.lattice p) _ => p < s.params.latticePorts
  | .ibMessage (.adit a) _ => a < s.params.aditPorts
  | _ => False

/-- A swap of microcode slots that has ended: the other slot is in force, and the records that waited for it are written (R425). -/
def swapped (s : State) : State := flushSump (odSet (odSet s 0x7F00 0x01 (idleSlot s)) 0x7F00 0x0A 5)

/-- A block reset that has ended: the ports that are enabled come up again (R416, R419). -/
def resetEnded (s : State) : State := portsAfterReset { s with resetting := false }

/-- A Gallery row with one entry for each key, whose STEP_EDDY is the sum of their terms (R342). -/
structure rowSummed (taps : Bool) (r : GalRow) : Prop where
  keys : r.entries.Pairwise fun a b => galSame a b = false
  sum : r.stepEddy = (r.entries.map (galTerm taps)).sum % eddyP

/-- Every quern position but `q` is as before. -/
def otherQuerns (s s' : State) (q : Nat) : Prop := ∀ r, r ≠ q → quernAt s' r = quernAt s r

/-- Every lattice port but `p` is as before. -/
def otherLattice (s s' : State) (p : Nat) : Prop := ∀ r, r ≠ p → latAt s' r = latAt s r

/-- Every adit port but `a` is as before. -/
def otherAdits (s s' : State) (a : Nat) : Prop := ∀ r, r ≠ a → aditAt s' r = aditAt s r

/-- The SEQ `n` places after `a`, modulo 2^48 (R289). -/
def seqFrom (a n : Nat) : Nat := if n = 0 then a else (a + n) % 2 ^ 48

/-- Port `p` has begun a fast retrain: RECOVERING, nothing of its sequence state lost, the retrain counted (R247, R274, R278). -/
def fastRetrain (s t : State) (p : Nat) : Prop :=
  (latAt t p).state = .recovering ∧ (latAt t p).train = 1 ∧ (latAt t p).retry = (latAt s p).retry ∧
  (latAt t p).nextSeq = (latAt s p).nextSeq ∧ (latAt t p).expSeq = (latAt s p).expSeq ∧
  odGet t (0x7040 + p) 0x13 = min (odGet s (0x7040 + p) 0x13 + 1) 0xFFFFFFFF ∧ otherLattice s t p

/-- The receiver of port `p` asks for the flit it expects, and waits for it: the NAK is counted and goes out at once (R272, R274). -/
def nakDue (s t : State) (p : Nat) : Prop :=
  odGet t (0x7040 + p) 0x0B = min (odGet s (0x7040 + p) 0x0B + 1) 0xFFFFFFFF ∧
  (latAt t p).rxWaiting = true ∧ (latAt t p).lcfNak = true ∧ (latAt t p).lcfDue = true ∧ (latAt t p).state = .recovering ∧
  (latAt t p).expSeq = (latAt s p).expSeq ∧ otherLattice s t p

end Sys2Proof.Safety
end

