-- ==== Sys2Proof/WellFormed.lean ====
section
/-! DEFINITION. Which commands an instance can receive: every operand names a unit that the instance has and fits the field that
carries it. -/

namespace Sys2Proof

open Sys2Proof.Config (Params)

/-- A tap of the instance (R24). -/
def okTap (p : Params) (t : Nat) : Bool := t < p.taps
/-- A quern position (R26). -/
def okQuern (p : Params) (q : Nat) : Bool := q < p.positions
/-- A plane (R24). -/
def okPlane (p : Params) (k : Nat) : Bool := k < p.planes
/-- A lattice port. -/
def okLat (p : Params) (n : Nat) : Bool := n < p.latticePorts
/-- An adit port. -/
def okAdit (p : Params) (a : Nat) : Bool := a < p.aditPorts
/-- A port. -/
def okPort (p : Params) : PortRef → Bool
  | .lattice n => okLat p n
  | .adit a => okAdit p a
/-- A unit that a downward message reaches. -/
def okUnit (p : Params) : UnitRef → Bool
  | .tap t => okTap p t
  | .quern q => okQuern p q
/-- A clock domain: none is the common one. -/
def okDomain (p : Params) : Option Nat → Bool
  | none => true
  | some k => okPlane p k

/-- A message whose fields fit the header of R262. -/
def okMessage (p : Params) (m : Message) : Bool :=
  okPlane p m.plane && m.attempt < 2 && m.run < 8 && m.span.k ≤ 24 && m.span.base < 2 ^ 24 && m.seg < 2 ^ 16 && m.firstElem < 2 ^ 32
/-- A message at a quern's input. -/
def okUp (p : Params) (q input : Nat) (m : Message) : Bool := okQuern p q && input < 16 && okMessage p m
/-- A message at a unit on its way down. -/
def okDown (p : Params) (u : UnitRef) (m : Message) : Bool := okUnit p u && okMessage p m
/-- A time message whose fields fit R233. -/
def okTime (m : TimeMsg) : Bool :=
  m.kind < 256 && m.state < 256 && m.tTxFrac < 2 ^ 16 && m.tRxFrac < 2 ^ 16 && m.tEchoFrac < 2 ^ 16
/-- The size of a core access: R139 answers every one of them. -/
def okSize (size : Nat) : Bool := size = 1 || size = 2 || size = 4 || size = 8 || size = 16 || size = 32 || size = 64
/-- An access without a row of its own. -/
def okAccess (p : Params) : RegAccess → Bool
  | .windowWrite t offset size _ => okTap p t && offset < 2 ^ 16 && okSize size
  | .windowRead t offset size => okTap p t && offset < 2 ^ 16 && okSize size
  | .mailboxWrite offset size _ => offset < 2 ^ 16 && okSize size
  | .mailboxRead offset size => offset < 2 ^ 16 && okSize size
  | .odWrite _ i sub data => i < 2 ^ 16 && sub < 256 && data.length ≤ 256
  | .odRead _ i sub => i < 2 ^ 16 && sub < 256
/-- An in-band message whose fields fit R393. -/
def okIb (m : IbMsg) : Bool :=
  m.rmode < 256 && m.hops ≤ 16 && m.hopLimit < 256 && m.pathLen < 256 && m.fwdPath.length = 16 && m.retPath.length = 16
    && 16 ≤ m.request.length && m.request.length ≤ 272
/-- A location that the instance has (R354). -/
def okLocation (p : Params) : EccLocation → Bool
  | .quernState q => okQuern p q
  | .rootStage q => okQuern p q
  | .tapState t => okTap p t
  | .latticeRetry n => okLat p n
  | .aditRing a => okAdit p a
  | .aditLanding a seq => okAdit p a && seq < 2 ^ 48
  | .microcode slot => slot < 2
  | _ => true
/-- A memory port of the instance: one for each group of 16 taps, then the four of the package memory (R430). -/
def okMemPort (p : Params) (n : Nat) : Bool := n < p.memPorts

/-- Whether the instance with parameters `p` can receive the command. -/
def Instr.wellFormed (p : Params) : Instr → Bool
  | .descPost t _ | .cqHeadWrite t _ | .flagSet t _ | .flagClear t _ | .sluicePoll t _ | .sluiceArrive t _ => okTap p t
  | .claim t flag size => okTap p t && flag < 4096 && okSize size
  | .poll t offset size => okTap p t && offset < 512 && okSize size
  | .sluiceBlankingEnd g _ => g < 16
  | .sluiceMemberWrite _ t _ => okTap p t
  | .registerWrite a => okAccess p a
  | .descStart t | .tileSettled t | .drainTimeout t _ | .ctxSaveDone t | .pollWatchdog t _ => okTap p t
  | .memReadResponse port tag bs _ _ => okMemPort p port && tag < 1024 && bs.length % 64 = 0
  | .memWriteResponse port tag _ => okMemPort p port && tag < 1024
  | .handoverAccept => p.handover
  | .segment q i m _ | .statsPass q i m _ => okUp p q i m
  | .prepass q i m | .openNote q i m | .barrierArrive q i m | .stepArrive q i m | .pause q i m | .resume q i m => okUp p q i m
  | .spareSwitchDone n => p.positions ≤ n && n < p.querns
  | .waitingSegmentAccepted q i => okQuern p q && i < 16
  | .prepassAnswer u m | .result u m | .commit u m | .retry u m | .statsRow u m | .statsPartial u m | .statsMerged u m =>
    okDown p u.unit m && (u.upset == .none || u.upset == .ecc)
  | .barrierRelease u m | .stepRelease u m => okDown p u m
  | .abort (.up q i) m => okUp p q i m
  | .abort (.down u) m => okDown p u m
  | .spanReport port m => okPort p port && okMessage p m
  | .bucketTimeout q plane _ _ _ => okQuern p q && okPlane p plane
  | .tapBackstopTimeout t _ _ _ | .replanTimeout t _ _ _ => okTap p t
  | .pauseCmdPause _ | .pauseCmdResume _ => 0 < p.taps
  | .pauseExpiry q _ => okQuern p q
  | .odFlagSet _ _ | .odFlagClear _ _ | .gtcTick | .timeReqSend _ | .servoWindow | .holdoverMaxExpiry _ | .gtcSet _ _ => true
  | .timeReq port m | .timeResp port m => okPort p port && okTime m
  | .arm _ | .disarm _ | .launchLead | .launchFire => true
  | .laneSignalDetect port lane => okLat p port && lane < 8
  | .laneSignalLoss port _ | .absentBurst port _ | .trainingComplete port | .flitTx port | .lcfInterval port _ => okLat p port
  | .trainingBlock port lane _ bytes => okLat p port && lane < 8 && bytes.length = 16
  | .flitRx port bytes _ corrected => okLat p port && bytes.length = 256 && corrected.length = 8
  | .lcf port i => okLat p port && i.ack < 2 ^ 24 && i.freedVc0.length = 8 && i.freedVc1.length = 8
  | .replayTimer port _ | .linkRecoveryTimeout port _ | .quietEntry port | .quietRefresh port _ => okLat p port
  | .latticeEnable _ port | .latticeDisable _ port | .retrain _ port | .test _ port | .resetLattice _ port => okLat p port
  | .aditLinkUp a | .aditLinkDown a | .data a _ _ | .ctrl a _ _ | .hello a _ _ | .helloTimer a _ | .aditFrameTx a => okAdit p a
  | .frameHoldExpiry a stream _ | .landingDeliver a stream => okAdit p a && stream ≤ 8
  | .keepalive a _ | .keepaliveDormant a _ | .resendTimer a _ | .silence a _ | .aditRecoveryTimeout a _ | .aditQuietEntry a => okAdit p a
  | .aditEnable _ a | .aditDisable _ a | .restart _ a | .resetAdit _ a => okAdit p a
  | .scrubPass _ found _ => found.all (okLocation p)
  | .spareIn _ q spare => q < p.querns && p.positions ≤ spare && spare < p.querns
  | .countRebase _ _ | .sumpClear _ | .injArm _ | .injDisarm _ | .countersClear _ | .go _ | .mbIrqWrite _ | .ibTimeout _ => true
  | .ibMessage port m => okPort p port && okIb m
  | .ibForwardKeyExpiry _ _ _ _ | .ibKeptResponseExpiry _ _ _ | .i3cPrivateRead => true
  | .i3cPrivateWrite bytes => 16 ≤ bytes.length && bytes.length ≤ 272
  | .entdaa _ | .setdasa | .rstdaa | .getpid | .getbcr | .getdcr | .getstatus | .getmwl | .getmrl => true
  | .acquire _ | .release _ | .breakLock _ | .lockTimeout _ | .prepare _ | .prepareChildTimeout _ | .apply _ | .abandon _ => true
  | .epochExchange port i => okPort p port && okPlane p i.plane
  | .stdAssign _ => true
  | .drain _ k | .undrain _ k => okPlane p k
  | .planeDrained k => okPlane p k
  | .save _ t | .restore _ t _ | .restoreFlags _ t _ | .fence _ t | .resetTap _ t => okTap p t
  | .fetchEntry _ | .fetchRowHeader _ | .galleryClear _ | .capArm _ | .capDisarm _ | .begin _ | .seal _ | .swap _ | .cancel _ => true
  | .loadData _ bytes => bytes.length = 256
  | .microcodeSwapExec | .microcodeSwapDone | .enter _ | .wake _ | .autoDormantExpiry _ | .dormantEntry | .dormantWakeDone => true
  | .fabricClockStop d _ => okDomain p d
  | .fabricClockStarted d => okDomain p d
  | .profileReqWrite _ v => v < 256
  | .fclkReqWrite _ _ | .profileChangeDone | .throttleRise | .throttleFall | .vidAck | .powerOnReset _ _ | .blockResetPin => true
  | .resetBlock _ | .blockResetDone | .resetPlanes _ _ => true
  | .testModeRise | .wsBypass | .wsExtest _ | .wsIntest _ | .wpScan | .wsMbist | .wsMbistAon | .wsLaneLoop | .testModeFall => true
  | .extest cells pins | .samplePreload cells pins | .extestPulse cells pins | .extestTrain cells pins => cells.length = pins.length
  | .coreDrainValid t beat => okTap p t && beat.length = 256

end Sys2Proof
end

