-- ==== Sys2Proof/Certificates/Slice0/Obligations.lean ====
section
/-! DEFINITION. The statements about the model, one `Prop` each. -/

open Sys2Proof Sys2Proof.Machine Sys2Proof.Safety

/-- For every command c and state s, a step of s with c put at the front of its queue is exec of c on s; and where the queue of s is c
followed by the rest, it is exec of c on s with the rest as its queue. What a step does with an empty queue is the model's own choice
(log entries 4, 42, 77): the message in flight longest on the die is delivered and leaves the flight; with nothing in flight an APPLY
under way is over, with EPOCH_STATUS 0, an offer that is due is made, and with neither nothing changes. -/
def Obligations.StepRunsFrontCommand : Prop :=
  ∀ (c : Instr) (s : State), step { s with pending := c :: s.pending } = exec c s ∧
    (∀ rest, s.pending = c :: rest → step s = exec c { s with pending := rest }) ∧
    (s.pending = [] → (∀ rest, s.onDie = c :: rest → step s = exec c { s with onDie := rest }) ∧
      (s.onDie = [] → odGet s 0x2200 0x03 ≠ 4 → s.offerDue = false → step s = .next s) ∧
      (s.onDie = [] → odGet s 0x2200 0x03 = 4 → ∃ t, step s = .next t ∧ odGet t 0x2200 0x03 = 0 ∧ t.inForce = s.inForce))

/-- The state after reset has the shape of its instance: every object at its reset value, every flag 0, the GTC 0 in FREE, no launch,
the lock free, every tap UNBOUND with nothing queued, no bucket open, no record in the sump, no microcode byte written, no command
waiting. The parameters are those of log entry 1 and the straps those of log entry 2. -/
def Obligations.ResetState : Prop :=
  Shaped State.reset ∧ State.reset.od = [] ∧ State.reset.inForce = [] ∧ State.reset.flags = 0 ∧ State.reset.gtc.count = 0 ∧
  State.reset.gtc.state = .free ∧ State.reset.launch = .idle ∧ State.reset.lock.holder = none ∧
  (∀ t, (tapAt State.reset t).state = .unbound ∧ (tapAt State.reset t).queue = [] ∧ (tapAt State.reset t).mirror = 0) ∧
  (∀ q, (quernAt State.reset q).entries = [] ∧ (quernAt State.reset q).waiting = []) ∧ State.reset.sump.recs = [] ∧
  State.reset.ucode = [] ∧ State.reset.pending = [] ∧ State.reset.onDie = [] ∧
  ∀ i sub, odGet State.reset i sub = odReset State.reset i sub

/-- From every state with the shape of its instance, not only those that a run reaches, a step that answers a next state leaves the
parameters, one record for each tap, quern position, lattice port and adit port, the microcode bytes in canonical form and at most 1024
sump records. -/
def Obligations.StepKeepsShape : Prop :=
  ∀ s s' : State, Shaped s → step s = .next s' → Shaped s' ∧ s'.params = s.params

/-- On every instance every command whose operands name units that the instance has answers a next state; a command never refuses, and
a fault names a unit that the instance does not have (the model's own stop, log entry 104). -/
def Obligations.EveryCommandCompletes : Prop :=
  ∀ (i : Instr) (s : State), Shaped s →
    (i.wellFormed s.params = true → completes (exec i s)) ∧ (∀ r, exec i s ≠ .refused r) ∧
    ∀ f, exec i s = .fault f → i.wellFormed s.params = false ∧ ∃ kind n, f = .absentUnit kind n

/-- A write of bytes at an address in the two slots reads back as those bytes, every byte outside it reads as before, and equal
contents stay equal data: the list of bytes keeps its canonical form. A byte that nothing has written reads 0 (log entry 2 names the
reset state). -/
def Obligations.MicrocodeBytes : Prop :=
  ∀ (m : Memory) (a : Nat) (bs : List Byte), m.wf = true →
    (m.writeBytes a bs).wf = true ∧ (m.writeBytes a bs).readBytes a bs.length = bs ∧
    (∀ b, b < a ∨ a + bs.length ≤ b → (m.writeBytes a bs).readBytes b 1 = m.readBytes b 1) ∧
    ∀ m' : Memory, m'.wf = true → (∀ b, m.readBytes b 1 = m'.readBytes b 1) → m = m'

/-- A served ARM whose five conditions of R242 hold answers OK and leaves ARMED, nothing else changed; the lowest condition that fails
is written to LAUNCH_REFUSE, the answer is RANGE, and for an arrival pending on line 15 CONFLICT. DISARM takes ARMED to ABORTED, FIRED
and ABORTED to IDLE, and does nothing in IDLE. GTC_SET at the time root in IDLE sets the counter; elsewhere, or in another launch
state, it is refused with RANGE (STATUS of ARM and GTC_SET: log entry 40; the count between ticks: log entry 28). -/
def Obligations.LaunchRequests : Prop :=
  ∀ (s : State) (p : Path), Serves s p →
    ((if (timeRole s).1 then s.gtc.state = .free else s.gtc.state = .locked) →
      (gtcNow s).toNat + odGet s 0x6050 0x05 * 1000 ≤ odGet s 0x6050 0x01 → errorBound s ≤ odGet s 0x6050 0x06 →
      (∀ t, t < s.params.taps → (sluiceMember s t &&& (tapAt s t).arrivals).getLsbD 15 = false) → s.launch = .idle →
      acceptedAs (.arm p) s p { ready s 0x6050 with launch := .armed }) ∧
    ((if (timeRole s).1 then s.gtc.state ≠ .free else s.gtc.state ≠ .locked) →
      declinedAs (.arm p) s p 5 (odSet (ready s 0x6050) 0x6050 0x08 1)) ∧
    ((if (timeRole s).1 then s.gtc.state = .free else s.gtc.state = .locked) →
      odGet s 0x6050 0x01 < (gtcNow s).toNat + odGet s 0x6050 0x05 * 1000 →
      declinedAs (.arm p) s p 5 (odSet (ready s 0x6050) 0x6050 0x08 2)) ∧
    ((if (timeRole s).1 then s.gtc.state = .free else s.gtc.state = .locked) →
      (gtcNow s).toNat + odGet s 0x6050 0x05 * 1000 ≤ odGet s 0x6050 0x01 → odGet s 0x6050 0x06 < errorBound s →
      declinedAs (.arm p) s p 5 (odSet (ready s 0x6050) 0x6050 0x08 3)) ∧
    (∀ t, (if (timeRole s).1 then s.gtc.state = .free else s.gtc.state = .locked) →
      (gtcNow s).toNat + odGet s 0x6050 0x05 * 1000 ≤ odGet s 0x6050 0x01 → errorBound s ≤ odGet s 0x6050 0x06 →
      t < s.params.taps → (sluiceMember s t &&& (tapAt s t).arrivals).getLsbD 15 = true →
      declinedAs (.arm p) s p 8 (accessConflict (odSet (ready s 0x6050) 0x6050 0x08 4) (pathNo p) 0x6050 0x02)) ∧
    ((if (timeRole s).1 then s.gtc.state = .free else s.gtc.state = .locked) →
      (gtcNow s).toNat + odGet s 0x6050 0x05 * 1000 ≤ odGet s 0x6050 0x01 → errorBound s ≤ odGet s 0x6050 0x06 →
      (∀ t, t < s.params.taps → (sluiceMember s t &&& (tapAt s t).arrivals).getLsbD 15 = false) → s.launch ≠ .idle →
      declinedAs (.arm p) s p 5 (odSet (ready s 0x6050) 0x6050 0x08 5)) ∧
    (s.launch = .armed → acceptedAs (.disarm p) s p { ready s 0x6050 with launch := .aborted }) ∧
    (s.launch = .fired ∨ s.launch = .aborted → acceptedAs (.disarm p) s p { ready s 0x6050 with launch := .idle }) ∧
    (s.launch = .idle → acceptedAs (.disarm p) s p (ready s 0x6050)) ∧
    (∀ v, (timeRole s).1 = true → s.launch = .idle →
      acceptedAs (.gtcSet p v) s p { ready s 0x6040 with gtc := { s.gtc with count := v, frac := 0, sub := 0 } }) ∧
    (∀ v, (timeRole s).1 = false ∨ s.launch ≠ .idle → declinedAs (.gtcSet p v) s p 5 (ready s 0x6040))

/-- A served write of FLAG_SET or FLAG_CLEAR with a flag number below 4096 answers OK and sets or clears that flag of the master and of
every mirror, nothing else changed; another number is refused with RANGE and leaves one E_FLAG_RANGE record that names source 128 and
the value. Setting or clearing flag f makes bit f read 1 or 0 and leaves every other bit as it was. -/
def Obligations.ManagementFlagWrites : Prop :=
  (∀ (s : State) (p : Path) (v : U16), Serves s p →
    (v.toNat < 4096 →
      acceptedAs (.odFlagSet p v) s p { ready s 0x6001 with
        flags := flagPut s.flags v.toNat true
        taps := s.taps.map fun x => { x with mirror := flagPut x.mirror v.toNat true } } ∧
      acceptedAs (.odFlagClear p v) s p { ready s 0x6001 with
        flags := flagPut s.flags v.toNat false
        taps := s.taps.map fun x => { x with mirror := flagPut x.mirror v.toNat false } }) ∧
    (4096 ≤ v.toNat →
      declinedAs (.odFlagSet p v) s p 5 (sump (ready s 0x6001) 0x0013 0 6 128 0xFF 0xFFFFFF 0 (u64 v.toNat)) ∧
      declinedAs (.odFlagClear p v) s p 5 (sump (ready s 0x6001) 0x0013 0 6 128 0xFF 0xFFFFFF 0 (u64 v.toNat)))) ∧
  ∀ (fl : BitVec 4096) (f : Nat) (b : Bool), f < 4096 →
    (flagPut fl f b).getLsbD f = b ∧ ∀ g, g ≠ f → (flagPut fl f b).getLsbD g = fl.getLsbD g

/-- When the central unit looks at every line: a line that all drive, that is not blanked and has a pending arrival is blanked and
every tap's arrival on it is cleared (for line 15 only while no launch holds it); on any other line blanking and arrivals stay as they
are. Nothing but blanking and arrivals changes. -/
def Obligations.SluiceLinesReleaseAlone : Prop :=
  ∀ (s : State) (g : Nat), g < 16 →
    ((sluiceAnd s).getLsbD g = true → s.blanking.getLsbD g = false → arrivalPending s g = true → (g = 15 → s.launch = .idle) →
      (sluiceCheck s).blanking.getLsbD g = true ∧ ∀ t, (tapAt (sluiceCheck s) t).arrivals.getLsbD g = false) ∧
    ((sluiceAnd s).getLsbD g = false ∨ s.blanking.getLsbD g = true ∨ arrivalPending s g = false ∨ (g = 15 ∧ s.launch ≠ .idle) →
      (sluiceCheck s).blanking.getLsbD g = s.blanking.getLsbD g ∧
      ∀ t, (tapAt (sluiceCheck s) t).arrivals.getLsbD g = (tapAt s t).arrivals.getLsbD g) ∧
    { sluiceCheck s with blanking := s.blanking, taps := s.taps } = s ∧
    ∀ t, { tapAt (sluiceCheck s) t with arrivals := (tapAt s t).arrivals } = tapAt s t

/-- On an instance with taps a served PAUSE_CMD answers OK: PAUSE sets the state object to 1 and every leaf quern holds its own output
span as paused, RESUME sets it to 0 and every leaf quern holds none; a notice that names the output spans of the leaf querns with a
present input goes to every active plane. No other object, no tap and no plane quern changes. -/
def Obligations.PauseRequests : Prop :=
  ∀ (s : State) (p : Path), Serves s p → Shaped s → 0 < s.params.taps →
    (accepted (.pauseCmdPause p) s p fun t =>
      odGet t 0x6030 0x02 = 1 ∧ (∀ g, g < s.params.leafQuerns → outSpan s g ∈ (quernAt t g).pausedSpans) ∧
      (∀ q, s.params.leafQuerns ≤ q → quernAt t q = quernAt s q) ∧
      t.onDie = s.onDie ++ (activePlanes s).map (fun k => Instr.pause (s.params.leafQuerns + k) 0
        { code := .pause, plane := k
          body := .spans (((List.range s.params.leafQuerns).filter fun g => !(inputsOf s g).isEmpty).map (outSpan s)) }) ∧
      onlyObjects (ready s 0x6030) t [(0x6030, 0x02)] ∧
      { t with od := s.od, querns := s.querns, onDie := s.onDie } = { ready s 0x6030 with od := s.od }) ∧
    (accepted (.pauseCmdResume p) s p fun t =>
      odGet t 0x6030 0x02 = 0 ∧ (∀ g, g < s.params.leafQuerns → (quernAt t g).pausedSpans = []) ∧
      (∀ q, s.params.leafQuerns ≤ q → quernAt t q = quernAt s q) ∧
      t.onDie = s.onDie ++ (activePlanes s).map (fun k => Instr.resume (s.params.leafQuerns + k) 0
        { code := .resume, plane := k
          body := .spans (((List.range s.params.leafQuerns).filter fun g => !(inputsOf s g).isEmpty).map (outSpan s)) }) ∧
      onlyObjects (ready s 0x6030) t [(0x6030, 0x02)] ∧
      { t with od := s.od, querns := s.querns, onDie := s.onDie } = { ready s 0x6030 with od := s.od })

/-- For a lattice port of the instance: ENABLE takes a DISABLED port to ABSENT and leaves any other state; DISABLE restarts the port's
link state, empties its queue and turns its lanes off; RETRAIN does nothing in DISABLED and TEST, starts a full training that keeps the
sequence state from ACTIVE, RECOVERING and QUIET, and one with restarted state elsewhere (log entry 35); TEST is taken in DISABLED and
refused with CONFLICT elsewhere. -/
def Obligations.LatticePortRequests : Prop :=
  ∀ (s : State) (p : Path) (n : Nat), Serves s p → Shaped s → n < s.params.latticePorts →
    (accepted (.latticeEnable p n) s p fun t =>
      latAt t n = { latAt s n with enabled := true, state := if (latAt s n).state = .disabled then .absent else (latAt s n).state } ∧
      otherLattice s t n ∧ { t with lattice := s.lattice } = ready s (0x4000 + n)) ∧
    (accepted (.latticeDisable p n) s p fun t =>
      latAt t n = { latRestart (latAt s n) with
        enabled := false, state := .disabled, train := 0, lanes := List.replicate 8 {}, txq := [] } ∧
      otherLattice s t n ∧ { t with lattice := s.lattice } = ready s (0x4000 + n)) ∧
    ((latAt s n).state = .disabled ∨ (latAt s n).state = .test → acceptedAs (.retrain p n) s p (ready s (0x4000 + n))) ∧
    ((latAt s n).state = .active ∨ (latAt s n).state = .recovering ∨ (latAt s n).state = .quiet →
      accepted (.retrain p n) s p fun t =>
        (latAt t n).state = .recovering ∧ (latAt t n).train = 2 ∧ (latAt t n).fresh = false ∧
        (latAt t n).nextSeq = (latAt s n).nextSeq ∧ (latAt t n).retry = (latAt s n).retry ∧
        (latAt t n).txq = (latAt s n).txq ∧ otherLattice s t n ∧
        { t with lattice := s.lattice, od := s.od, outs := s.outs } = { ready s (0x4000 + n) with od := s.od }) ∧
    ((latAt s n).state = .absent ∨ (latAt s n).state = .training ∨ (latAt s n).state = .down ∨ (latAt s n).state = .misconnected →
      accepted (.retrain p n) s p fun t =>
        (latAt t n).state = .training ∧ (latAt t n).train = 2 ∧ (latAt t n).fresh = true ∧
        (latAt t n).nextSeq = 0 ∧ (latAt t n).expSeq = 0 ∧ (latAt t n).retry = [] ∧ (latAt t n).txq = (latAt s n).txq ∧ otherLattice s t n ∧
        { t with lattice := s.lattice, od := s.od, outs := s.outs } = { ready s (0x4000 + n) with od := s.od }) ∧
    ((latAt s n).state = .disabled →
      acceptedAs (.test p n) s p (modLat (ready s (0x4000 + n)) n fun x => { x with state := .test })) ∧
    ((latAt s n).state ≠ .disabled →
      declinedAs (.test p n) s p 8 (accessConflict (ready s (0x4000 + n)) (pathNo p) (0x4000 + n) 0x02))

/-- For an adit port of the instance: ENABLE is refused with RANGE while an address or the retention size is 0; otherwise a DISABLED
port goes to HELLO with a new session where its link is up and to ABSENT where not, and any other state stays. DISABLE clears the
session and the queue. RESTART does nothing in DISABLED and ABSENT; elsewhere it starts a new session in HELLO (ABSENT where the link
is down) and drops the flits of VC 0 to 2 that wait (log entry 35). -/
def Obligations.AditPortRequests : Prop :=
  ∀ (s : State) (p : Path) (a : Nat), Serves s p → Shaped s → a < s.params.aditPorts →
    (odGet s (0x4100 + a) 0x07 = 0 ∨ odGet s (0x4100 + a) 0x08 = 0 ∨ odGet s (0x4100 + a) 0x0F = 0 →
      declinedAs (.aditEnable p a) s p 5 (ready s (0x4100 + a))) ∧
    (odGet s (0x4100 + a) 0x07 ≠ 0 → odGet s (0x4100 + a) 0x08 ≠ 0 → odGet s (0x4100 + a) 0x0F ≠ 0 →
      accepted (.aditEnable p a) s p fun t =>
        (aditAt t a).enabled = true ∧
        (aditAt t a).state = (if (aditAt s a).state = .disabled then (if (aditAt s a).linkUp then .hello else .absent) else (aditAt s a).state) ∧
        ((aditAt s a).state = .disabled → (aditAt s a).linkUp = true → (aditAt t a).session = gtcNow s ∧ (aditAt t a).ring = []) ∧
        ((aditAt s a).state ≠ .disabled → aditAt t a = { aditAt s a with enabled := true }) ∧
        otherAdits s t a ∧ { t with adits := s.adits } = ready s (0x4100 + a)) ∧
    (accepted (.aditDisable p a) s p fun t =>
      aditAt t a = { aditClear (aditAt s a) with
        enabled := false, state := .disabled, txq := [], closedFrames := [], waitMsgs := [] } ∧
      otherAdits s t a ∧ { t with adits := s.adits } = ready s (0x4100 + a)) ∧
    ((aditAt s a).state = .disabled ∨ (aditAt s a).state = .absent → acceptedAs (.restart p a) s p (ready s (0x4100 + a))) ∧
    ((aditAt s a).state ≠ .disabled → (aditAt s a).state ≠ .absent →
      accepted (.restart p a) s p fun t =>
        aditAt t a = { aditClear (aditAt s a) with
          state := if (aditAt s a).linkUp then .hello else .absent, session := gtcNow s, peerSeen := false, peerSession := none
          txq := (aditAt s a).txq.filter fun f => 3 ≤ f.vc } ∧
        otherAdits s t a ∧ { t with adits := s.adits } = ready s (0x4100 + a))

/-- For a quern that serves a position and a free spare that may stand for it: where every plane of the position is drained SPARE_IN
answers OK, the position has no server until the switch is done, and what the quern held goes; where some plane is not drained it is
refused with CONFLICT; a spare that is not free or does not fit is refused with RANGE. Nothing else changes. That every active plane of
the position must be drained is the model's reading (log entry 89). -/
def Obligations.SpareRequests : Prop :=
  ∀ (s : State) (p : Path) (q r n : Nat), Serves s p → q < s.params.querns → positionOf s q = some r →
    s.params.positions ≤ n → n < s.params.querns →
    (spareFree s n = true → spareFits s.params n r = true → (∀ k, k ∈ planesOf s r → planeState s k = 3) →
      acceptedAs (.spareIn p q n) s p (modQuern (ready s (0x2100 + q)) r fun x =>
        { x with server := none, switching := some n, fenceFail := some { noFail with obj := q }, entries := [], merges := [], scaleRecs := [] })) ∧
    (∀ k, spareFree s n = true → spareFits s.params n r = true → k ∈ planesOf s r → planeState s k ≠ 3 →
      declinedAs (.spareIn p q n) s p 8 (accessConflict (ready s (0x2100 + q)) (pathNo p) (0x2100 + q) 0x03)) ∧
    (spareFree s n = false ∨ spareFits s.params n r = false → declinedAs (.spareIn p q n) s p 5 (ready s (0x2100 + q)))

/-- A served COUNT_REBASE whose planes have nothing in flight answers OK and sets ISSUED, DELIVERED and ACCEPTED of every named plane
to 0; with something in flight it is refused with CONFLICT and changes none. COUNTERS_CLEAR returns every counter that is no audit
counter to its default and leaves every other object and all state as they are. -/
def Obligations.CounterRequests : Prop :=
  ∀ (s : State) (p : Path) (v : U32), Serves s p → Shaped s →
    ((∀ k, k < s.params.planes → bitOf v.toNat k = true → planeInFlight s k = false) →
      accepted (.countRebase p v) s p fun t =>
        ∀ k, k < s.params.planes → bitOf v.toNat k = true →
          (∀ u, u < s.params.taps → odGet t (0x7080 + u) (0x01 + k) = 0 ∧ odGet t (0x7080 + u) (0x09 + k) = 0 ∧
            odGet t (0x7080 + u) (0x11 + k) = 0) ∧
          ∀ q i, q < s.params.positions → i < 16 → RegFile.get 0 (k * 16 + i) (quernAt t q).accepted = 0) ∧
    (∀ k, k < s.params.planes → bitOf v.toNat k = true → planeInFlight s k = true →
      declinedAs (.countRebase p v) s p 8 (accessConflict (ready s 0x7010) (pathNo p) 0x7010 0x03)) ∧
    (accepted (.countersClear p) s p fun t =>
      (∀ i sub, sub < 256 → odGet t i sub = if nonAudit s i sub then odReset s i sub else odGet (ready s 0x7001) i sub) ∧
      { t with od := s.od } = { ready s 0x7001 with od := s.od })

/-- SUMP_CLEAR answers OK, empties the ring, FIRST and the records kept for merging, and keeps the next SEQ. INJ_CMD ARM with nothing
armed and a kind that the unit has arms it with its count, INJ_STATE 1 and INJ_DONE 0; with an injection armed, or another kind or
unit, it is refused with RANGE. DISARM removes the injection. Nothing else changes. What is kept for merging and the corners of INJ_CMD
follow log entries 68 and 100. -/
def Obligations.SumpAndInjectionRequests : Prop :=
  ∀ (s : State) (p : Path), Serves s p →
    acceptedAs (.sumpClear p) s p { ready s 0x7000 with sump := { s.sump with recs := [], first := none, lastRec := [] } } ∧
    (s.inject.armed = false →
      odGet s 0x7038 1 ∈ injectKinds s (bitsOf (odGet s 0x7038 2) 15 8) (bitsOf (odGet s 0x7038 2) 7 0) →
      acceptedAs (.injArm p) s p (odSet (odSet { ready s 0x7038 with
        inject := { armed := true, kind := odGet s 0x7038 1, objKind := bitsOf (odGet s 0x7038 2) 15 8
                    unit := bitsOf (odGet s 0x7038 2) 7 0, left := odGet s 0x7038 3 } } 0x7038 5 1) 0x7038 6 0)) ∧
    (s.inject.armed = true ∨
      odGet s 0x7038 1 ∉ injectKinds s (bitsOf (odGet s 0x7038 2) 15 8) (bitsOf (odGet s 0x7038 2) 7 0) →
      declinedAs (.injArm p) s p 5 (ready s 0x7038)) ∧
    acceptedAs (.injDisarm p) s p (odSet { ready s 0x7038 with inject := {} } 0x7038 5 0)

/-- A request for the lock needs no lock. ACQUIRE of a free lock and BREAK by I3C give it to the path and stamp the time; ACQUIRE by
the holder answers OK and changes nothing; ACQUIRE against another holder is refused with LOCK and leaves E_ACCESS_CONFLICT naming the
refused path. RELEASE by the holder frees it; by another path it is refused with LOCK. BREAK is refused with RANGE on the other paths,
and names the broken holder in E_ACCESS_CONFLICT. -/
def Obligations.LockRequests : Prop :=
  ∀ (s : State) (p : Path), Reaches s p →
    (s.lock.holder = none → acceptedAs (.acquire p) s p
      (odSet { ready s 0x1100 with lock := { holder := some p } } 0x1100 0x07 (gtcNow s).toNat)) ∧
    (s.lock.holder = some p → acceptedAs (.acquire p) s p (ready s 0x1100)) ∧
    (∀ h, s.lock.holder = some h → h ≠ p →
      declinedAs (.acquire p) s p 7 (accessConflict (ready s 0x1100) (pathNo p) 0x1100 0x03) ∧
      declinedAs (.release p) s p 7 (ready s 0x1100)) ∧
    (s.lock.holder = some p → acceptedAs (.release p) s p { ready s 0x1100 with lock := {} }) ∧
    (s.lock.holder = none → acceptedAs (.release p) s p (ready s 0x1100)) ∧
    (p ≠ .i3c → declinedAs (.breakLock p) s p 5 (ready s 0x1100)) ∧
    (p = .i3c → s.lock.holder = none → acceptedAs (.breakLock p) s p
      (odSet { ready s 0x1100 with lock := { holder := some p } } 0x1100 0x07 (gtcNow s).toNat)) ∧
    (p = .i3c → s.lock.holder = some p → acceptedAs (.breakLock p) s p (ready s 0x1100)) ∧
    (∀ h, p = .i3c → s.lock.holder = some h → h ≠ p → acceptedAs (.breakLock p) s p
      (accessConflict (odSet { ready s 0x1100 with lock := { holder := some p } } 0x1100 0x07 (gtcNow s).toNat) (pathNo h) 0x1100 0x03))

/-- PREPARE is refused with RANGE outside EPOCH_STATUS 0 and else leaves 1 PREPARING, 2 PREPARED or 3 REFUSED with EPOCH_PLANES holding
the changed planes; ABANDON returns 2 and 3 to 0 and drops what was heard, and is refused elsewhere; APPLY is refused with RANGE
outside 2, and with CONFLICT while a changed plane is active or draining or a configuration object is lost. DRAIN takes an active plane
to draining and UNDRAIN a draining or drained plane to active; each answers OK and changes nothing from another state. The order within
PREPARE and the form of the exchange are the model's (log entries 41, 106). -/
def Obligations.EpochRequests : Prop :=
  ∀ (s : State) (p : Path), Serves s p →
    (odGet s 0x2200 0x03 ≠ 0 → declinedAs (.prepare p) s p 5 (ready s 0x2200)) ∧
    (odGet s 0x2200 0x03 = 0 → accepted (.prepare p) s p fun t =>
      (odGet t 0x2200 0x03 = 1 ∨ odGet t 0x2200 0x03 = 2 ∨ odGet t 0x2200 0x03 = 3) ∧
      odGet t 0x2200 0x07 = planeBits (changedPlanes s) ∧ t.inForce = s.inForce ∧ t.taps = s.taps ∧ t.querns = s.querns) ∧
    (odGet s 0x2200 0x03 = 2 ∨ odGet s 0x2200 0x03 = 3 →
      acceptedAs (.abandon p) s p { odSet (ready s 0x2200) 0x2200 0x03 0 with
        setup := { s.setup with preparedPlanes := 0, heard := [] } }) ∧
    (odGet s 0x2200 0x03 ≠ 2 → odGet s 0x2200 0x03 ≠ 3 → declinedAs (.abandon p) s p 5 (ready s 0x2200)) ∧
    (odGet s 0x2200 0x03 ≠ 2 → declinedAs (.apply p) s p 5 (ready s 0x2200)) ∧
    (∀ k, odGet s 0x2200 0x03 = 2 → k < s.params.planes → bitOf (odGet s 0x2200 0x07) k = true →
      (planeState s k = 1 ∨ planeState s k = 2) →
      declinedAs (.apply p) s p 8 (accessConflict (ready s 0x2200) (pathNo p) 0x2200 0x02)) ∧
    (odGet s 0x2200 0x03 = 2 → s.setup.objectLost ≠ [] →
      declinedAs (.apply p) s p 8 (accessConflict (ready s 0x2200) (pathNo p) 0x2200 0x02)) ∧
    (∀ k, k < s.params.planes → planeState s k = 1 → accepted (.drain p k) s p fun t =>
      planeState t k = 2 ∧ onlyObjects (ready s (0x2210 + k)) t [(0x2210 + k, 0x09)] ∧
      { t with od := s.od, taps := s.taps, onDie := s.onDie } = { ready s (0x2210 + k) with od := s.od }) ∧
    (∀ k, k < s.params.planes → planeState s k ≠ 1 → acceptedAs (.drain p k) s p (ready s (0x2210 + k))) ∧
    (∀ k, k < s.params.planes → (planeState s k = 2 ∨ planeState s k = 3) → accepted (.undrain p k) s p fun t =>
      planeState t k = 1 ∧ onlyObjects (ready s (0x2210 + k)) t [(0x2210 + k, 0x09)] ∧
      { t with od := s.od, taps := s.taps, onDie := s.onDie } = { ready s (0x2210 + k) with od := s.od }) ∧
    (∀ k, k < s.params.planes → planeState s k ≠ 2 → planeState s k ≠ 3 →
      acceptedAs (.undrain p k) s p (ready s (0x2210 + k)))

/-- From EPOCH_STATUS 2 with every changed plane drained or inactive and no configuration object lost, APPLY answers OK; afterwards
EPOCH_STATUS is 4 APPLYING, every tree object in force has its staged value, nothing is prepared and nothing heard is kept. That the
epoch takes effect within the command, and that APPLYING ends when the block comes to rest, is the model's choice (log entry 42). -/
def Obligations.ApplyTakesEffect : Prop :=
  ∀ (s : State) (p : Path), Serves s p → odGet s 0x2200 0x03 = 2 → s.setup.objectLost = [] →
    (∀ k, k < s.params.planes → bitOf (odGet s 0x2200 0x07) k = true → planeState s k = 3 ∨ planeState s k = 0) →
    accepted (.apply p) s p fun t =>
      odGet t 0x2200 0x03 = 4 ∧ (∀ key, key ∈ treeKeys s → cfg t key.1 key.2 = stagedGet s key.1 key.2) ∧
      t.setup.preparedPlanes = 0 ∧ t.setup.heard = [] ∧ t.params = s.params

/-- With the staged set open, STD_ASSIGN is refused with RANGE where the layout breaks R71 or cannot be used; else it answers OK, the
staged binding of each tap below FILL_0 is its standard index, that of every other tap is unbound, and a check that was prepared is
discarded. Only those objects and EPOCH_STATUS change. -/
def Obligations.StandardLayoutRequest : Prop :=
  ∀ (s : State) (p : Path), Serves s p → stagedOpen s = true →
    (stdRefused s = true → declinedAs (.stdAssign p) s p 5 (ready s 0x2201)) ∧
    (stdRefused s = false → accepted (.stdAssign p) s p fun t =>
      (∀ c, c < s.params.taps → odGet t (0x3000 + c) 0x01 =
        if c < odGet s 0x2201 0x08 then
          stdIndex (odGet s 0x2201 0x0E) c (fun j => odGet s 0x2201 (0x02 + j)) (fun j => odGet s 0x2201 (0x08 + j)) (odGet s 0x2201 0x01)
        else 2 ^ 31) ∧
      (odGet s 0x2200 0x03 = 2 ∨ odGet s 0x2200 0x03 = 3 → odGet t 0x2200 0x03 = 0) ∧
      onlyObjects (ready s 0x2201) t ((0x2200, 0x03) :: (List.range s.params.taps).map fun c => (0x3000 + c, 0x01)) ∧
      { t with od := s.od, setup := s.setup } = { ready s 0x2201 with od := s.od })

/-- SAVE of an ACTIVE tap answers OK, takes it to SAVING and begins the save; elsewhere it is refused with RANGE. FENCE of an ACTIVE,
SAVING or PARKED tap answers OK and the tap ignores its core from then on; elsewhere it is refused. A restore that R167 refuses answers
OK and leaves CTX_STATUS 3 with the reason, the tap otherwise as it was; one that it accepts leaves the tap ACTIVE with the image's
index, counters, queue words and stage, and RESTORE_FLAGS also writes the image's flags at the master. The image is the 48 KiB of R165
read into its fields; a restore refused for a region leaves reason 0 (log entry 47). -/
def Obligations.ContextRequests : Prop :=
  ∀ (s : State) (p : Path) (t : Nat) (bs : List Byte) (i : CtxImage), imageOfBytes bs = i → Serves s p → Shaped s → t < s.params.taps →
    ((tapAt s t).state = .active → accepted (.save p t) s p fun s' =>
      tapAt s' t = { tapAt s t with state := .saving, ctx := {}, ctxStatus := 1, ctxReason := 0 } ∧
      otherTaps s s' t ∧ s'.onDie = s.onDie ++ [.ctxSaveDone t] ∧
      { s' with taps := s.taps, onDie := s.onDie } = ready s (0x3000 + t)) ∧
    ((tapAt s t).state ≠ .active → declinedAs (.save p t) s p 5 (ready s (0x3000 + t))) ∧
    ((tapAt s t).state = .active ∨ (tapAt s t).state = .saving ∨ (tapAt s t).state = .parked →
      accepted (.fence p t) s p fun s' =>
        (tapAt s' t).ignoreCore = true ∧ (tapAt s' t).ctx.fencing = true ∧
        (tapAt s' t).state = (if (tapAt s t).state = .active then .saving else (tapAt s t).state) ∧
        otherTaps s s' t ∧ { s' with taps := s.taps, onDie := s.onDie } = ready s (0x3000 + t)) ∧
    ((tapAt s t).state = .unbound ∨ (tapAt s t).state = .fenced → declinedAs (.fence p t) s p 5 (ready s (0x3000 + t))) ∧
    (∀ r, restoreRefusal s t i false = some r →
      acceptedAs (.restore p t bs) s p
        (modTap (ready s (0x3000 + t)) t fun x => { x with ctxStatus := 3, ctxReason := r })) ∧
    (restoreRefusal s t i false = none → accepted (.restore p t bs) s p fun s' =>
      (tapAt s' t).state = .active ∧ (tapAt s' t).contrib = i.contrib ∧ (tapAt s' t).stage = i.stage ∧
      (tapAt s' t).busyCount = i.busyCount ∧ (tapAt s' t).ctxStatus = 2 ∧
      (∀ k, k < 8 → odGet s' (0x7080 + t) (0x01 + k) = ((i.counters.getD k []).getD 0 0).toNat ∧
        odGet s' (0x7080 + t) (0x09 + k) = ((i.counters.getD k []).getD 1 0).toNat ∧
        odGet s' (0x7080 + t) (0x11 + k) = ((i.counters.getD k []).getD 3 0).toNat) ∧
      odGet s' (0x3000 + t) 0x05 = i.posted.toNat ∧ cqTail s' t = i.cqTail.toNat ∧ cqHead s' t = i.cqHead.toNat ∧
      cqSize s' t = i.cqSize.toNat ∧ s'.flags = s.flags) ∧
    (∀ r, restoreRefusal s t i true = some r →
      acceptedAs (.restoreFlags p t bs) s p
        (modTap (ready s (0x3000 + t)) t fun x => { x with ctxStatus := 3, ctxReason := r })) ∧
    (restoreRefusal s t i true = none → accepted (.restoreFlags p t bs) s p fun s' =>
      (tapAt s' t).state = .active ∧ (tapAt s' t).contrib = i.contrib ∧ s'.flags = i.flags ∧
      ∀ u, u < s.params.taps → (tapAt s' u).mirror = i.flags)

/-- FETCH of an entry or of a row header that the Gallery does not hold answers OK with Q_STATUS 3 for the row, 2 for the entry; one
that it holds answers with Q_STATUS 1 and its words in the readback objects. CLEAR empties the rows. CAP_CMD ARM empties the capture
table and arms it; DISARM of an armed capture does the same and returns to idle, and of another does nothing (log entry 53). Recording:
an entry of a STEP with a row joins that row, in place of the one of its key, and leaves the other entries and rows; for a full row, or
a STEP older than every row held, it is counted in DROPPED alone; a new STEP takes a row, of the oldest where none is free. STEP_EDDY
stays the sum of the terms of the row's entries, in whatever order they come (log entry 75). A failed or frozen bucket has no digest. -/
def Obligations.GalleryRequests : Prop :=
  (∀ (s : State) (p : Path), Serves s p →
    (queryRow s = none →
      acceptedAs (.fetchEntry p) s p (odSet (ready s 0x5041) 0x5041 0x05 3) ∧
      acceptedAs (.fetchRowHeader p) s p (odSet (ready s 0x5041) 0x5041 0x05 3)) ∧
    (∀ r, queryRow s = some r → queryEntry s r = none →
      acceptedAs (.fetchEntry p) s p (odSet (ready s 0x5041) 0x5041 0x05 2)) ∧
    (∀ r e, queryRow s = some r → queryEntry s r = some e → tapped s = true →
      accepted (.fetchEntry p) s p fun t =>
        odGet t 0x5041 0x05 = 1 ∧ (∀ j, j < 4 → odGet t 0x5042 (1 + j) = (e.words.getD j 0).toNat) ∧
        onlyObjects (ready s 0x5041) t [(0x5041, 5), (0x5042, 1), (0x5042, 2), (0x5042, 3), (0x5042, 4)] ∧
        { t with od := s.od } = { ready s 0x5041 with od := s.od }) ∧
    (∀ r e, queryRow s = some r → queryEntry s r = some e → tapped s = false →
      accepted (.fetchEntry p) s p fun t =>
        odGet t 0x5041 0x05 = 1 ∧ (∀ j, j < 8 → odGet t 0x5042 (1 + j) = (e.words.getD j 0).toNat) ∧
        (∀ j, j < 128 → odGet t 0x5043 (1 + j) = e.inputs.getD j 0 ∧ odGet t 0x5044 (1 + j) = e.inputs.getD (128 + j) 0)) ∧
    (∀ r, queryRow s = some r → accepted (.fetchRowHeader p) s p fun t =>
      odGet t 0x5041 0x05 = 1 ∧ odGet t 0x5045 1 = r.step.toNat ∧ odGet t 0x5045 2 = r.stepEddy ∧ odGet t 0x5045 3 = r.entries.length ∧
      onlyObjects (ready s 0x5041) t [(0x5041, 5), (0x5045, 1), (0x5045, 2), (0x5045, 3)] ∧
      { t with od := s.od } = { ready s 0x5041 with od := s.od }) ∧
    acceptedAs (.galleryClear p) s p { ready s 0x5040 with gallery := { s.gallery with rows := [] } } ∧
    acceptedAs (.capArm p) s p (odSet { ready s 0x5050 with gallery := { s.gallery with capture := [], capRuns := [] } } 0x5050 0x04 1) ∧
    (odGet s 0x5050 0x04 = 1 → acceptedAs (.capDisarm p) s p
      (odSet { ready s 0x5050 with gallery := { s.gallery with capture := [], capRuns := [] } } 0x5050 0x04 0)) ∧
    (odGet s 0x5050 0x04 ≠ 1 → acceptedAs (.capDisarm p) s p (ready s 0x5050))) ∧
  (∀ (s : State) (step : U64) (e : GalEntry),
    (∀ r, s.gallery.rows.find? (fun x => x.step == step) = some r →
      (r.entries.any (galSame e) = false → rowSlots s ≤ (r.entries.filter fun o => o.plane == e.plane || tapped s).length →
        galRecord s step e = cnt s 0x5040 0x08) ∧
      (r.entries.any (galSame e) = true ∨ (r.entries.filter fun o => o.plane == e.plane || tapped s).length < rowSlots s →
        (∃ r', (galRecord s step e).gallery.rows.find? (fun x => x.step == step) = some r' ∧ e ∈ r'.entries ∧
          (r'.entries.filter fun o => !galSame e o) = r.entries.filter fun o => !galSame e o) ∧
        ((galRecord s step e).gallery.rows.filter fun x => x.step != step) = s.gallery.rows.filter fun x => x.step != step)) ∧
    ((∀ r ∈ s.gallery.rows, r.step ≠ step) →
      (galDepth s = 0 ∨ (s.gallery.rows ≠ [] ∧ ∀ r ∈ s.gallery.rows, step.toNat < r.step.toNat) → galRecord s step e = cnt s 0x5040 0x08) ∧
      (0 < galDepth s → s.gallery.rows = [] ∨ (∃ r ∈ s.gallery.rows, r.step.toNat < step.toNat) → (galRecord s step e).gallery.rows =
        s.gallery.rows.drop (s.gallery.rows.length + 1 - galDepth s) ++ [⟨step, [e], galTerm (tapped s) e⟩])) ∧
    ((∀ r ∈ s.gallery.rows, rowSummed (tapped s) r) → ∀ r ∈ (galRecord s step e).gallery.rows, rowSummed (tapped s) r)) ∧
  ∀ (f : Flight) (own : List Nat), f.desc.op ≠ 8 →
    (f.status ≠ 0 ∨ f.desc.frozen = true → (galTapEntry f 0 own).words.drop 1 = [0, 0, 0]) ∧
    (f.status = 0 → f.desc.frozen = false → (galTapEntry f 0 own).words.drop 1 =
      [u64 ((resultEddy f).headD 0), u64 (own.headD 0), u64 ((statsEddyOf f.stats).headD 0)])

/-- BEGIN makes the idle slot invalid and LOADING at offset 0; a pending swap refuses it with RANGE. LOAD_DATA in LOADING writes its
256 bytes at LOAD_OFFSET of the idle slot and moves the offset on; elsewhere, or past IMAGE_SIZE, it is refused. SEAL compares the
CRC-64 of the idle image with IMAGE_CRC: equal makes the slot valid and SEALED, unequal leaves status 3. SWAP needs both slots valid
and leaves SWAP_PENDING; with no active plane or in Dormant it is offered at once. CANCEL takes SWAP_PENDING back to SEALED and does
nothing else. What the spec leaves open of these commands follows log entry 54. -/
def Obligations.MicrocodeRequests : Prop :=
  ∀ (s : State) (p : Path), Serves s p →
    (loadStatus s = 4 →
      declinedAs (.begin p) s p 5 (ready s 0x7F00) ∧ declinedAs (.seal p) s p 5 (ready s 0x7F00) ∧
      acceptedAs (.cancel p) s p (odSet { ready s 0x7F00 with swapDue := false } 0x7F00 0x0A 2)) ∧
    (loadStatus s ≠ 4 → acceptedAs (.cancel p) s p (ready s 0x7F00)) ∧
    (loadStatus s ≠ 4 → accepted (.begin p) s p fun t =>
      bitOf (odGet t 0x7F00 0x04) (idleSlot s) = false ∧ odGet t 0x7F00 (0x02 + idleSlot s) = 0 ∧ odGet t 0x7F00 0x07 = 0 ∧
      odGet t 0x7F00 0x0A = 1 ∧
      onlyObjects (ready s 0x7F00) t [(0x7F00, 4), (0x7F00, 0x02 + idleSlot s), (0x7F00, 7), (0x7F00, 0x0A)] ∧
      { t with od := s.od } = { ready s 0x7F00 with od := s.od }) ∧
    (∀ bs, bs.length = 256 → loadStatus s = 1 → odGet s 0x7F00 0x07 + 256 ≤ odGet s 0x7F00 0x05 →
      acceptedAs (.loadData p bs) s p (odSet { ready s 0x7F00 with
        ucode := s.ucode.writeBytes (idleSlot s * 2 ^ 18 + odGet s 0x7F00 0x07) bs } 0x7F00 0x07 (odGet s 0x7F00 0x07 + 256))) ∧
    (∀ bs, bs.length = 256 → loadStatus s ≠ 1 ∨ odGet s 0x7F00 0x05 < odGet s 0x7F00 0x07 + 256 →
      declinedAs (.loadData p bs) s p 5 (ready s 0x7F00)) ∧
    (loadStatus s ≠ 4 →
      (crc64 (s.ucode.readBytes (idleSlot s * 2 ^ 18) (odGet s 0x7F00 0x05))).toNat = odGet s 0x7F00 0x06 →
      accepted (.seal p) s p fun t =>
        bitOf (odGet t 0x7F00 0x04) (idleSlot s) = true ∧ odGet t 0x7F00 0x0A = 2 ∧
        odGet t 0x7F00 (0x02 + idleSlot s) = bytesToNat (s.ucode.readBytes (idleSlot s * 2 ^ 18) 4) ∧
        { t with od := s.od } = { ready s 0x7F00 with od := s.od }) ∧
    (loadStatus s ≠ 4 →
      (crc64 (s.ucode.readBytes (idleSlot s * 2 ^ 18) (odGet s 0x7F00 0x05))).toNat ≠ odGet s 0x7F00 0x06 →
      acceptedAs (.seal p) s p (odSet (ready s 0x7F00) 0x7F00 0x0A 3)) ∧
    (odGet s 0x7F00 0x04 % 4 ≠ 3 → declinedAs (.swap p) s p 5 (ready s 0x7F00)) ∧
    (odGet s 0x7F00 0x04 % 4 = 3 → s.power.state ≠ .dormant → activePlanes s ≠ [] →
      acceptedAs (.swap p) s p (odSet (ready s 0x7F00) 0x7F00 0x0A 4)) ∧
    (odGet s 0x7F00 0x04 % 4 = 3 → s.power.state = .dormant ∨ activePlanes s = [] →
      acceptedAs (.swap p) s p (post (odSet (ready s 0x7F00) 0x7F00 0x0A 4) .microcodeSwapExec))

/-- ENTER takes a running instance to entering and offers Dormant; in another state it does nothing. WAKE takes entering back to
running and Dormant to waking. FCLK_REQ from 600 to 1100 in steps of 25 answers OK and the frequency is the least of it, the ceiling
and, under throttle, 600 MHz; another value is refused with RANGE. PROFILE_REQ of a profile that the part does not offer is refused
with RANGE; of another one than that in force, or that a change under way goes to, it asks for the supply, and it lowers the ceiling at
once where the new ceiling is not above the one in force and keeps it where it is; of the one in force or under way it only stores the
value. The supply codes and the moment of entry are the model's (log entries 51, 52). -/
def Obligations.PowerRequests : Prop :=
  ∀ (s : State) (p : Path), Serves s p →
    (s.power.state = .running →
      acceptedAs (.enter p) s p (post { s with od := (ready s 0x7100).od, power := { s.power with state := .entering } } .dormantEntry)) ∧
    (s.power.state ≠ .running → acceptedAs (.enter p) s p (ready s 0x7100)) ∧
    (s.power.state = .entering →
      acceptedAs (.wake p) s p { s with od := (ready s 0x7100).od, power := { s.power with state := .running } }) ∧
    (s.power.state = .dormant →
      acceptedAs (.wake p) s p { s with od := (ready s 0x7100).od, power := { s.power with state := .waking } }) ∧
    (s.power.state = .running ∨ s.power.state = .waking → acceptedAs (.wake p) s p (ready s 0x7100)) ∧
    (∀ v : U16, 600 ≤ v.toNat → v.toNat ≤ 1100 → v.toNat % 25 = 0 → accepted (.fclkReqWrite p v) s p fun t =>
      odGet t 0x7100 0x03 = v.toNat ∧ t.power.mhz = min (min v.toNat s.power.ceiling) (if s.power.throttle then 600 else 1100) ∧
      onlyObjects (ready s 0x7100) t [(0x7100, 3)] ∧
      { t with od := s.od, power := { t.power with mhz := s.power.mhz } } = s) ∧
    (∀ v : U16, v.toNat < 600 ∨ 1100 < v.toNat ∨ v.toNat % 25 ≠ 0 →
      declinedAs (.fclkReqWrite p v) s p 5 (ready s 0x7100)) ∧
    (∀ v, v < 256 → profileOffered s v = false → declinedAs (.profileReqWrite p v) s p 5 (ready s 0x7100)) ∧
    (∀ v, v ≤ 2 → profileOffered s v = true → v = s.power.changing.getD (odGet s 0x7100 0x02) →
      acceptedAs (.profileReqWrite p v) s p (odSet (ready s 0x7100) 0x7100 0x01 v)) ∧
    (∀ v, v ≤ 2 → profileOffered s v = true → v ≠ s.power.changing.getD (odGet s 0x7100 0x02) →
      accepted (.profileReqWrite p v) s p fun t =>
        odGet t 0x7100 0x01 = v ∧ t.power.changing = some v ∧ t.power.vidReq = Config.vidCode v ∧ t.power.vidAck = false ∧
        t.outs = s.outs ++ [.vidReq (Config.vidCode v)] ∧
        t.power.ceiling = (if s.power.ceiling < profileCeiling v then s.power.ceiling else min s.power.ceiling (profileCeiling v)) ∧
        t.power.mhz ≤ t.power.ceiling ∧ odGet t 0x7100 0x02 = odGet s 0x7100 0x02)

/-- RESET_BLOCK answers OK and begins a block reset with LAST_RESET 1: taps UNBOUND, flags clear, launch IDLE, no lock, tree objects in
force at their defaults, the engine held. RESET_PLANES answers OK. RESET_LATTICE and RESET_ADIT refuse a port that the instance does
not have with RANGE and one that carries a plane with CONFLICT; else the lattice port is ABSENT or DISABLED by its enable with its link
state restarted. RESET_TAP refuses a tap that is bound with CONFLICT; an UNBOUND or FENCED one is UNBOUND afterwards, its objects at
their defaults and its mirror that of the flags. What a reset keeps of the paths follows log entry 55. -/
def Obligations.ResetRequests : Prop :=
  ∀ (s : State) (p : Path), Serves s p → Shaped s →
    (accepted (.resetBlock p) s p fun t =>
      t.resetting = true ∧ t.flags = 0 ∧ t.launch = .idle ∧ t.lock = {} ∧ t.inForce = [] ∧
      (∀ u, (tapAt t u).state = .unbound) ∧ (∀ n, n < s.params.latticePorts → (latAt t n).state = .disabled) ∧
      odGet t 0x7102 0x06 = 1 ∧ t.params = s.params) ∧
    (∀ planes : U32, accepted (.resetPlanes p planes) s p fun t =>
      t.params = s.params ∧ t.flags = s.flags ∧ t.launch = s.launch ∧ t.lock = s.lock ∧
      ∀ k, k < s.params.planes → bitOf planes.toNat k = true → planeState t k = 0 ∧ epochOf t k = 0 ∧ cfg t (0x2210 + k) 0x01 = 0) ∧
    (∀ n, n < 256 → s.params.latticePorts ≤ n → declinedAs (.resetLattice p n) s p 5 (ready s 0x7102)) ∧
    (∀ n, n < s.params.latticePorts → portPlanes s (.lattice n) ≠ [] →
      declinedAs (.resetLattice p n) s p 8 (accessConflict (ready s 0x7102) (pathNo p) 0x7102 0x03)) ∧
    (∀ n, n < s.params.latticePorts → portPlanes s (.lattice n) = [] → accepted (.resetLattice p n) s p fun t =>
      latAt t n = { latHeld (latAt s n) with state := if (latAt s n).enabled then .absent else .disabled } ∧
      otherLattice s t n ∧
      (∀ i sub, sub < 256 → odGet t i sub =
        if i = 0x4000 + n && !retained i sub then odReset s i sub else odGet (ready s 0x7102) i sub) ∧
      { t with od := s.od, lattice := s.lattice } = { ready s 0x7102 with od := s.od }) ∧
    (∀ a, a < 256 → s.params.aditPorts ≤ a → declinedAs (.resetAdit p a) s p 5 (ready s 0x7102)) ∧
    (∀ a, a < s.params.aditPorts → portPlanes s (.adit a) ≠ [] →
      declinedAs (.resetAdit p a) s p 8 (accessConflict (ready s 0x7102) (pathNo p) 0x7102 0x04)) ∧
    (∀ a, a < s.params.aditPorts → portPlanes s (.adit a) = [] → accepted (.resetAdit p a) s p fun t =>
      (aditAt t a).state = (if (aditAt s a).enabled then (if (aditAt s a).linkUp then .hello else .absent) else .disabled) ∧
      (aditAt t a).ring = [] ∧ (aditAt t a).txq = [] ∧ (aditAt t a).nextSeq = 0 ∧ otherAdits s t a ∧
      { t with od := s.od, adits := s.adits } = { ready s 0x7102 with od := s.od }) ∧
    (∀ t, t < 256 → s.params.taps ≤ t → declinedAs (.resetTap p t) s p 5 (ready s 0x7102)) ∧
    (∀ t, t < s.params.taps → (tapAt s t).state ≠ .unbound → (tapAt s t).state ≠ .fenced →
      declinedAs (.resetTap p t) s p 8 (accessConflict (ready s 0x7102) (pathNo p) 0x7102 0x05)) ∧
    (∀ t, t < s.params.taps → (tapAt s t).state = .unbound ∨ (tapAt s t).state = .fenced →
      accepted (.resetTap p t) s p fun s' =>
        (tapAt s' t).state = .unbound ∧ (tapAt s' t).queue = [] ∧ (tapAt s' t).ignoreCore = false ∧ (tapAt s' t).mirror = s.flags ∧
        s'.flags = s.flags ∧ (∀ sub, sub < 256 → odGet s' (0x3000 + t) sub = odReset s (0x3000 + t) sub) ∧
        ∀ u, u ≠ t → (tapAt s' u).state = (tapAt s u).state ∧ (tapAt s' u).queue = (tapAt s u).queue)

/-- The state in which an object's rule runs differs from the state before in the count of requests and in the power state's clock
domains alone. While a block reset or a swap holds the engine, a write, a read and a restore wait in order of arrival, and nothing else
changes. On a path that is not enabled a request is refused with PATH_DISABLED. Else it is counted and refused, in this order, with
NO_OBJECT, READ_ONLY or WRITE_ONLY, LENGTH, LOCK (leaving E_ACCESS_CONFLICT, but for the lock command itself), RANGE and NOT_IDLE. Each
row that is a dictionary write is the write of its object, so all of this holds for it; a unit that the instance does not have is an
object it does not have. Which responses count in OD_REQUESTS and OD_REFUSED, and that the request is served while its clock domain
starts, is the model's reading (log entries 93, 64, 104). -/
def Obligations.RequestChecks : Prop :=
  (∀ (s : State) (i : Nat),
    { ready s i with od := s.od, power := s.power } = s ∧ onlyObjects s (ready s i) [(0x7001, 0x02)] ∧
    { (ready s i).power with starting := s.power.starting } = s.power) ∧
  (∀ (s : State) (p : Path) (i sub : Nat) (data : List Byte),
    (s.resetting = true ∨ s.swapping = true →
      exec (.registerWrite (.odWrite p i sub data)) s = .next { s with held := s.held ++ [(.engine, .registerWrite (.odWrite p i sub data))] } ∧
      exec (.registerWrite (.odRead p i sub)) s = .next { s with held := s.held ++ [(.engine, .registerWrite (.odRead p i sub))] } ∧
      exec (.restore p i data) s = .next { s with held := s.held ++ [(.engine, .restore p i data)] } ∧
      exec (.restoreFlags p i data) s = .next { s with held := s.held ++ [(.engine, .restoreFlags p i data)] }) ∧
    (s.resetting = false → s.swapping = false → pathOn s p = false →
      declinedAs (.registerWrite (.odWrite p i sub data)) s p 0x0A s ∧ declinedAs (.registerWrite (.odRead p i sub)) s p 0x0A s) ∧
    (s.resetting = false → s.swapping = false → pathOn s p = true →
      (accessRow s i sub = none → declinedAs (.registerWrite (.odWrite p i sub data)) s p 1 (cnt s 0x7001 0x02) ∧
        declinedAs (.registerWrite (.odRead p i sub)) s p 1 (cnt s 0x7001 0x02)) ∧
      (∀ r, accessRow s i sub = some r → r.acc = .wo → declinedAs (.registerWrite (.odRead p i sub)) s p 3 (cnt s 0x7001 0x02)) ∧
      (∀ r, accessRow s i sub = some r → r.acc = .ro ∨ r.acc = .const →
        declinedAs (.registerWrite (.odWrite p i sub data)) s p 2 (cnt s 0x7001 0x02)) ∧
      (∀ r, accessRow s i sub = some r → r.acc ≠ .ro → r.acc ≠ .const →
        (data.length ≠ r.ty.bytes → declinedAs (.registerWrite (.odWrite p i sub data)) s p 4 (cnt s 0x7001 0x02)) ∧
        (data.length = r.ty.bytes → ¬(i = 0x1100 ∧ sub = 3) → s.lock.holder ≠ some p →
          declinedAs (.registerWrite (.odWrite p i sub data)) s p 7 (accessConflict (cnt s 0x7001 0x02) (pathNo p) i sub)) ∧
        (data.length = r.ty.bytes → (i = 0x1100 ∧ sub = 3) ∨ s.lock.holder = some p →
          (inRange s r i sub (bytesToNat data) = false →
            declinedAs (.registerWrite (.odWrite p i sub data)) s p 5 (cnt s 0x7001 0x02)) ∧
          (inRange s r i sub (bytesToNat data) = true → writable s r i sub = false →
            declinedAs (.registerWrite (.odWrite p i sub data)) s p 6 (cnt s 0x7001 0x02)))))) ∧
  (∀ (s : State) (sub : Nat), s.params.supported = true → accessRow s 0xFFFF sub = none) ∧
  ∀ (s : State) (p : Path) (n q w : Nat) (v16 : U16) (v32 : U32) (v64 : U64) (bs : List Byte),
    isWrite (.sluiceMemberWrite p n v32) s p (unitIndex 0x3000 n s.params.taps) 0x03 v32.toNat 4 ∧
    isWrite (.pauseCmdPause p) s p 0x6030 1 1 1 ∧ isWrite (.pauseCmdResume p) s p 0x6030 1 2 1 ∧ isWrite (.arm p) s p 0x6050 2 1 1 ∧
    isWrite (.disarm p) s p 0x6050 2 2 1 ∧ isWrite (.spareIn p q n) s p (unitIndex 0x2100 q s.params.querns) 3 (min n 0xFF) 1 ∧
    isWrite (.sumpClear p) s p 0x7000 0x0D 1 1 ∧ isWrite (.injArm p) s p 0x7038 4 1 1 ∧ isWrite (.injDisarm p) s p 0x7038 4 2 1 ∧
    isWrite (.countersClear p) s p 0x7001 1 1 1 ∧ isWrite (.acquire p) s p 0x1100 3 1 1 ∧ isWrite (.release p) s p 0x1100 3 2 1 ∧
    isWrite (.breakLock p) s p 0x1100 3 3 1 ∧ isWrite (.prepare p) s p 0x2200 2 1 1 ∧ isWrite (.apply p) s p 0x2200 2 2 1 ∧
    isWrite (.abandon p) s p 0x2200 2 3 1 ∧ isWrite (.stdAssign p) s p 0x2201 0x0F 1 1 ∧ isWrite (.fetchEntry p) s p 0x5041 4 1 1 ∧
    isWrite (.fetchRowHeader p) s p 0x5041 4 2 1 ∧ isWrite (.galleryClear p) s p 0x5040 9 1 1 ∧ isWrite (.capArm p) s p 0x5050 3 1 1 ∧
    isWrite (.capDisarm p) s p 0x5050 3 2 1 ∧ isWrite (.begin p) s p 0x7F00 9 1 1 ∧ isWrite (.seal p) s p 0x7F00 9 2 1 ∧
    isWrite (.swap p) s p 0x7F00 9 3 1 ∧ isWrite (.cancel p) s p 0x7F00 9 4 1 ∧ isWrite (.enter p) s p 0x7100 5 1 1 ∧
    isWrite (.wake p) s p 0x7100 5 2 1 ∧ isWrite (.resetBlock p) s p 0x7102 1 1 1 ∧ isWrite (.odFlagSet p v16) s p 0x6001 1 v16.toNat 2 ∧
    isWrite (.odFlagClear p v16) s p 0x6001 2 v16.toNat 2 ∧ isWrite (.fclkReqWrite p v16) s p 0x7100 3 v16.toNat 2 ∧
    isWrite (.gtcSet p v64) s p 0x6040 7 v64.toNat 8 ∧ isWrite (.latticeEnable p n) s p (unitIndex 0x4000 n s.params.latticePorts) 2 1 1 ∧
    isWrite (.latticeDisable p n) s p (unitIndex 0x4000 n s.params.latticePorts) 2 2 1 ∧
    isWrite (.retrain p n) s p (unitIndex 0x4000 n s.params.latticePorts) 2 3 1 ∧
    isWrite (.test p n) s p (unitIndex 0x4000 n s.params.latticePorts) 2 4 1 ∧ isWrite (.resetLattice p n) s p 0x7102 3 (min n 0xFF) 1 ∧
    isWrite (.aditEnable p n) s p (unitIndex 0x4100 n s.params.aditPorts) 2 1 1 ∧
    isWrite (.aditDisable p n) s p (unitIndex 0x4100 n s.params.aditPorts) 2 2 1 ∧
    isWrite (.restart p n) s p (unitIndex 0x4100 n s.params.aditPorts) 2 3 1 ∧ isWrite (.resetAdit p n) s p 0x7102 4 (min n 0xFF) 1 ∧
    isWrite (.countRebase p v32) s p 0x7010 3 v32.toNat 4 ∧ isWrite (.resetPlanes p v32) s p 0x7102 2 v32.toNat 4 ∧
    isWrite (.drain p n) s p (unitIndex 0x2210 n s.params.planes) 0x0A 1 1 ∧
    isWrite (.undrain p n) s p (unitIndex 0x2210 n s.params.planes) 0x0A 2 1 ∧
    isWrite (.save p n) s p (unitIndex 0x3000 n s.params.taps) 0x0D 1 1 ∧
    isWrite (.fence p n) s p (unitIndex 0x3000 n s.params.taps) 0x0D 4 1 ∧ isWrite (.resetTap p n) s p 0x7102 5 (min n 0xFF) 1 ∧
    exec (.loadData p bs) s = exec (.registerWrite (.odWrite p 0x7F00 8 bs)) s ∧
    isWrite (.profileReqWrite p w) s p 0x7100 1 (min w 0xFF) 1

/-- On a tap whose core is not ignored: a post in ACTIVE with room in the queue and in the completion queue takes the last queue place
with the staged bytes, LAST is ACCEPTED, POSTED counts modulo 2^32, the poll watchdog restarts and the start is offered; in another
state LAST is NOT_BOUND; with no room LAST is BUSY and BUSY_COUNT counts, saturating. A refused post leaves the queue, POSTED and every
object as they were. Where the tap ignores its core nothing changes. -/
def Obligations.PostAtWindow : Prop :=
  ∀ (s : State) (t : Nat) (w : PostWrite), Shaped s → t < s.params.taps →
    (coreOff s t = true → exec (.descPost t w) s = .next s) ∧
    (coreOff s t = false → (tapAt s t).state = .active → (tapAt s t).queue.length < 64 → queueFree s t ≠ 0 →
      gives (.descPost t w) s fun s' =>
        (tapAt s' t).stage = (match w with | .word7 v => { (tapAt s t).stage with w7 := v } | .line d => d) ∧
        (tapAt s' t).queue = (tapAt s t).queue ++ [{ id := (tapAt s t).nextId, desc := (tapAt s' t).stage }] ∧
        (tapAt s' t).last = 1 ∧ (tapAt s' t).busyCount = (tapAt s t).busyCount ∧ (tapAt s' t).dog.restarted = gtcNow s ∧
        odGet s' (0x3000 + t) 0x05 = (odGet s (0x3000 + t) 0x05 + 1) % 2 ^ 32 ∧ s'.onDie = s.onDie ++ [.descStart t] ∧
        otherTaps s s' t ∧ onlyObjects s s' [(0x3000 + t, 0x05)] ∧
        { s' with od := s.od, taps := s.taps, power := s.power, onDie := s.onDie } = s) ∧
    (coreOff s t = false → (tapAt s t).state ≠ .active → gives (.descPost t w) s fun s' =>
      (tapAt s' t).last = 3 ∧ (tapAt s' t).queue = (tapAt s t).queue ∧ (tapAt s' t).busyCount = (tapAt s t).busyCount ∧
      otherTaps s s' t ∧ { s' with taps := s.taps, power := s.power } = s) ∧
    (coreOff s t = false → (tapAt s t).state = .active → (64 ≤ (tapAt s t).queue.length ∨ queueFree s t = 0) →
      gives (.descPost t w) s fun s' =>
        (tapAt s' t).last = 2 ∧ (tapAt s' t).queue = (tapAt s t).queue ∧
        (tapAt s' t).busyCount.toNat = min ((tapAt s t).busyCount.toNat + 1) 0xFFFF ∧
        otherTaps s s' t ∧ { s' with taps := s.taps, power := s.power } = s)

/-- On a tap whose core is not ignored a write of CQ_HEAD whose low 32 bits lie from CQ_HEAD to CQ_TAIL becomes CQ_HEAD; any other
write leaves every object as it was. Either way nothing but a wake from Dormant happens beside it; a core that is ignored changes
nothing. -/
def Obligations.CompletionQueueHead : Prop :=
  ∀ (s : State) (t : Nat) (v : U64), t < s.params.taps →
    (coreOff s t = true → exec (.cqHeadWrite t v) s = .next s) ∧
    (coreOff s t = false →
      (v.toNat % 2 ^ 32 + 2 ^ 32 - cqHead s t) % 2 ^ 32 ≤ (cqTail s t + 2 ^ 32 - cqHead s t) % 2 ^ 32 →
      exec (.cqHeadWrite t v) s = .next (odSet (wakeTrigger s) (0x3000 + t) 0x07 (v.toNat % 2 ^ 32))) ∧
    (coreOff s t = false →
      (cqTail s t + 2 ^ 32 - cqHead s t) % 2 ^ 32 < (v.toNat % 2 ^ 32 + 2 ^ 32 - cqHead s t) % 2 ^ 32 →
      exec (.cqHeadWrite t v) s = .next (wakeTrigger s))

/-- With the instance running and its common clock on, at a tap that does not ignore its core: SET and CLEAR at a bound tap of a flag
below 4096 change that flag at the master and in every mirror and restart the watchdog, and a value with a higher bit leaves one
E_FLAG_RANGE and changes nothing else. A one-byte CLAIM of a bound tap returns the flag's value before it and clears it everywhere; of
a tap that is not bound it returns 0 and clears none; of another width it leaves E_FLAG_RANGE, is counted as ignored and returns 0 (log
entry 73). A POLL of an aligned piece of 8 to 64 bytes of the mirror returns its bytes at any such tap and changes no flag; of another
size or alignment it is counted as ignored and returns 0. Beside what is said, CLAIM and POLL change the tap's watchdog and what a
record of it writes and counts, and nothing else. -/
def Obligations.WindowFlagOperations : Prop :=
  ∀ (s : State) (t : Nat), Shaped s → t < s.params.taps → coreOff s t = false → s.power.state = .running → s.power.common = true →
    (coreBound (tapAt s t) = true →
      (∀ v : U64, v.toNat < 4096 →
        exec (.flagSet t v) s = .next (dogRestart (flagOp s v.toNat true) t) ∧
        exec (.flagClear t v) s = .next (dogRestart (flagOp s v.toNat false) t)) ∧
      ∀ v : U64, 4096 ≤ v.toNat →
        exec (.flagSet t v) s = .next (sump s 0x0013 0 1 t 0xFF 0xFFFFFF 0 v) ∧
        exec (.flagClear t v) s = .next (sump s 0x0013 0 1 t 0xFF 0xFFFFFF 0 v)) ∧
    (∀ f, f < 4096 → gives (.claim t f 1) s fun s' =>
      s'.outs = s.outs ++ [.windowData t (if coreBound (tapAt s t) && s.flags.getLsbD f then 1 else 0)] ∧
      s'.flags = (if coreBound (tapAt s t) then flagPut s.flags f false else s.flags) ∧
      (∀ u, u < s.params.taps →
        (tapAt s' u).mirror = if coreBound (tapAt s t) then flagPut (tapAt s u).mirror f false else (tapAt s u).mirror) ∧
      (∀ u, { tapAt s' u with mirror := (tapAt s u).mirror, dog := (tapAt s u).dog } = tapAt s u) ∧
      (∀ u, u ≠ t → (tapAt s' u).dog = (tapAt s u).dog) ∧ onlyObjects s s' [(0x7080 + t, 0x27), (0x7000, 0x0C)] ∧
      { s' with od := s.od, taps := s.taps, flags := s.flags, outs := s.outs, sump := s.sump } = s) ∧
    (∀ f n, f < 4096 → n ≠ 1 → exec (.claim t f n) s =
      .next (emit (cnt (sump s 0x0013 0 1 t 0xFF 0xFFFFFF 0 (u64 (0x2000 + f))) (0x7080 + t) 0x21) (.windowData t 0))) ∧
    (∀ f n, 4096 ≤ f → exec (.claim t f n) s = .next (emit s (.windowData t 0))) ∧
    ∀ offset size,
      ((size = 8 ∨ size = 16 ∨ size = 32 ∨ size = 64) → offset % size = 0 → offset + size ≤ 512 →
        gives (.poll t offset size) s fun s' =>
          s'.outs = s.outs ++ [.windowData t (((tapAt s t).mirror >>> (8 * offset)).toNat % 2 ^ (8 * size))] ∧
          (∀ u, { tapAt s' u with dog := (tapAt s u).dog } = tapAt s u) ∧ (∀ u, u ≠ t → (tapAt s' u).dog = (tapAt s u).dog) ∧
          onlyObjects s s' [(0x7080 + t, 0x27), (0x7000, 0x0C)] ∧
          { s' with od := s.od, taps := s.taps, outs := s.outs, sump := s.sump } = s) ∧
      (¬(size = 8 ∨ size = 16 ∨ size = 32 ∨ size = 64) ∨ offset % size ≠ 0 ∨ 512 < offset + size →
        exec (.poll t offset size) s = .next (emit (cnt s (0x7080 + t) 0x21) (.windowData t 0)))

/-- A SET, CLEAR, CLAIM, POLL or sluice access of a bound tap waits with the common clock's start where the clock is stopped; where the
instance is Dormant it begins the wake and waits for it, where the instance wakes it waits for it, and where the instance is entering
Dormant it takes that back and goes on as while it runs. A tap that ignores its core takes no write, and its reads return 0. The SET,
CLEAR and arrivals of a tap that is not bound do nothing but begin such a wake. -/
def Obligations.WindowWaits : Prop :=
  ∀ (s : State) (t : Nat), t < s.params.taps →
    (coreOff s t = true →
      (∀ v, exec (.flagSet t v) s = .next s ∧ exec (.flagClear t v) s = .next s ∧ exec (.sluiceArrive t v) s = .next s) ∧
      (∀ f n, exec (.claim t f n) s = .next (emit s (.windowData t 0))) ∧
      (∀ o n, exec (.poll t o n) s = .next (emit s (.windowData t 0))) ∧
      ∀ d, exec (.sluicePoll t d) s = .next (emit s (.windowData t 0))) ∧
    (coreOff s t = false → coreBound (tapAt s t) = true →
      ∀ (v : U64) (f o n : Nat) (d : Bool), f < 4096 → (n = 8 ∨ n = 16 ∨ n = 32 ∨ n = 64) → o % n = 0 → o + n ≤ 512 →
        ∀ c ∈ [Instr.flagSet t v, .flagClear t v, .sluiceArrive t v, .claim t f 1, .poll t o n, .sluicePoll t d],
          (s.power.state = .running → s.power.common = false →
            exec c s = .next { startCommon s with held := s.held ++ [(.clock none, c)] }) ∧
          (s.power.state = .dormant ∨ s.power.state = .waking →
            exec c s = .next { s with power := { s.power with state := .waking }, held := s.held ++ [(.wake, c)] }) ∧
          (s.power.state = .entering → exec c s = exec c { s with power := { s.power with state := .running } })) ∧
    (coreOff s t = false → coreBound (tapAt s t) = false →
      ∀ v, exec (.flagSet t v) s = .next (wakeTrigger s) ∧ exec (.flagClear t v) s = .next (wakeTrigger s) ∧
        exec (.sluiceArrive t v) s = .next (wakeTrigger s))

/-- With the instance running, its common clock on, no launch and no restored index at any tap: a read of SLUICE_DRIVE returns, for
each of the 16 lines, 1 where the tap is no member, 0 where it is a member without an arrival and 1 where it is one with an arrival; a
read of SLUICE_LINES returns 1 on a line exactly where every tap drives 1. -/
def Obligations.SluiceDriveAndLines : Prop :=
  ∀ (s : State) (t : Nat), Shaped s → t < s.params.taps → coreOff s t = false → s.power.state = .running →
    s.power.common = true → s.launch = .idle → (∀ u, u < s.params.taps → (tapAt s u).keptDrive = none) →
    (gives (.sluicePoll t true) s fun s' => ∃ d : BitVec 16, s'.outs = s.outs ++ [.windowData t d.toNat] ∧
      ∀ g, g < 16 → d.getLsbD g = (!(sluiceMember s t).getLsbD g || (tapAt s t).arrivals.getLsbD g)) ∧
    (gives (.sluicePoll t false) s fun s' => ∃ l : BitVec 16, s'.outs = s.outs ++ [.windowData t l.toNat] ∧
      ∀ g, g < 16 → (l.getLsbD g = true ↔
        ∀ u, u < s.params.taps → (!(sluiceMember s u).getLsbD g || (tapAt s u).arrivals.getLsbD g) = true))

/-- With the instance running, its common clock on and a bound tap, a write of SLUICE_ARRIVE makes the arrival pending on the member
lines it names and the central unit looks at every line; while a launch holds line 15 that bit makes none and leaves E_SLUICE_RESERVED.
The blanking of a line ends after 24 ns and the line is looked at again; before that, or with no blanking, nothing changes. A served
write of SLUICE_MEMBER answers OK: the object takes the low 16 bits, the tap's arrivals outside them go, a drive kept for a restored
index goes, and the lines are looked at; nothing else changes. -/
def Obligations.SluiceArrivals : Prop :=
  ∀ (s : State),
    (∀ (t : Nat) (v : U64), t < s.params.taps → coreOff s t = false → coreBound (tapAt s t) = true → s.power.state = .running →
      s.power.common = true →
      (s.launch = .idle → exec (.sluiceArrive t v) s = .next (sluiceCheck (modTap s t fun x =>
        { x with arrivals := x.arrivals ||| (BitVec.ofNat 16 v.toNat &&& sluiceMember s t) }))) ∧
      (s.launch ≠ .idle → v.getLsbD 15 = false → exec (.sluiceArrive t v) s = .next (sluiceCheck (modTap s t fun x =>
        { x with arrivals := x.arrivals ||| (BitVec.ofNat 16 v.toNat &&& sluiceMember s t &&& 0x7FFF) }))) ∧
      (s.launch ≠ .idle → v.getLsbD 15 = true → gives (.sluiceArrive t v) s fun s' => ∃ s1,
        s1 = sump s 0x0014 0 1 t 0xFF 0xFFFFFF 0 v ∧
        s' = sluiceCheck (modTap s1 t fun x =>
          { x with arrivals := x.arrivals ||| (BitVec.ofNat 16 v.toNat &&& sluiceMember s1 t &&& 0x7FFF) }))) ∧
    (∀ g e, 24 ≤ e → s.blanking.getLsbD g = true →
      exec (.sluiceBlankingEnd g e) s = .next (sluiceLine { s with blanking := s.blanking &&& ~~~lineBit g } g)) ∧
    (∀ g e, e < 24 ∨ s.blanking.getLsbD g = false → exec (.sluiceBlankingEnd g e) s = .next s) ∧
    ∀ (p : Path) (t : Nat) (v : U32), Serves s p → t < s.params.taps →
      acceptedAs (.sluiceMemberWrite p t v) s p
        (sluiceCheck (modTap (odSet (ready s (0x3000 + t)) (0x3000 + t) 0x03 (v.toNat % 65536)) t fun x =>
          { x with arrivals := x.arrivals &&& BitVec.ofNat 16 v.toNat, keptDrive := none }))

/-- The launch states are IDLE 0, ARMED 1, FIRED 2 and ABORTED 3. In ARMED and ABORTED line 15 of SLUICE_LINES reads 0 at every tap, in
FIRED it reads 1; lines 0 to 14 never follow the launch, and in IDLE line 15 is that of the sluice group. An arrival on line 15 is
taken in IDLE alone. -/
def Obligations.LaunchLine : Prop :=
  (LaunchState.idle.no = 0 ∧ LaunchState.armed.no = 1 ∧ LaunchState.fired.no = 2 ∧ LaunchState.aborted.no = 3) ∧
  ∀ s : State,
    (s.launch = .armed ∨ s.launch = .aborted →
      (sluiceLines s).getLsbD 15 = false ∧ ∀ t, t < s.params.taps → (sluiceDriveRead s t).getLsbD 15 = false) ∧
    (s.launch = .fired →
      (sluiceLines s).getLsbD 15 = true ∧ ∀ t, t < s.params.taps → (sluiceDriveRead s t).getLsbD 15 = true) ∧
    (s.launch = .idle → (sluiceLines s).getLsbD 15 = (sluiceAnd s).getLsbD 15) ∧
    (∀ g, g < 15 → (sluiceLines s).getLsbD g = (sluiceAnd s).getLsbD g) ∧
    (∀ (t : Nat) (v : U64), t < s.params.taps → s.launch ≠ .idle → coreOff s t = false → coreBound (tapAt s t) = true →
      s.power.state = .running → s.power.common = true → Shaped s →
      gives (.sluiceArrive t v) s fun s' => (tapAt s t).arrivals.getLsbD 15 = false → (tapAt s' t).arrivals.getLsbD 15 = false)

/-- Before T_WATCHDOG, or after it has fired, the timer's event changes nothing. At the limit with a poll less than 1 ms old the tap is
counted in WATCHDOG_FIRES and marked fired, and no flag, line or tap state changes; without such a poll the timer stays overdue for the
next one. -/
def Obligations.PollWatchdogFires : Prop :=
  ∀ (s : State) (t e : Nat), Shaped s → t < s.params.taps →
    (e < (tapAt s t).dog.limit ∨ (tapAt s t).dog.fired = true → exec (.pollWatchdog t e) s = .next s) ∧
    ((tapAt s t).dog.limit ≤ e → (tapAt s t).dog.fired = false → (tapAt s t).dog.last.isSome = true →
      s.uptime < (tapAt s t).dog.lastAt + 1000000 → gives (.pollWatchdog t e) s fun s' =>
        (tapAt s' t).dog.fired = true ∧ odGet s' (0x7080 + t) 0x27 = min (odGet s (0x7080 + t) 0x27 + 1) 0xFFFFFFFF ∧
        (tapAt s' t).state = (tapAt s t).state ∧ s'.flags = s.flags ∧ otherTaps s s' t ∧
        { s' with od := s.od, taps := s.taps, sump := s.sump } = s) ∧
    ((tapAt s t).dog.limit ≤ e → (tapAt s t).dog.fired = false →
      ((tapAt s t).dog.last = none ∨ (tapAt s t).dog.lastAt + 1000000 ≤ s.uptime) →
      exec (.pollWatchdog t e) s = .next (modTap s t fun x => { x with dog := { x.dog with overdue := true } }))

/-- A write of an aligned stage word below word 7 stores it; reads of POST_STATUS, QUEUE_FREE, CQ_TAIL, CQ_HEAD and TAP_STATE return
those words; an access to a register with a row of its own does what the row does. An access that R139 ignores, of another size or
alignment, a write of a read-only register or a read of a write-only one, is counted in IGNORED_ACCESS, a read returning 0, and changes
nothing else but for a wake. A mailbox word of MB_REQ written while no request is under way reads back; MB_RSP, MB_STATUS and MB_ID
read what they hold; an access of another size or alignment reads 0 or changes nothing. An object write that passes every check and
that the object's rule accepts answers OK; a read that passes its checks answers OK with the object's bytes; a read of the GTC shows
the count between two ticks (log entry 28). -/
def Obligations.RegisterAccesses : Prop :=
  ∀ (s : State),
    (∀ t, t < s.params.taps → coreOff s t = false →
      (∀ i v, i < 7 → exec (.registerWrite (.windowWrite t (8 * i) 8 v)) s =
        .next (modTap (wakeTrigger s) t fun x => { x with stage := stageWord x.stage i (u64 v) })) ∧
      (exec (.registerWrite (.windowRead t 0x40 8)) s = .next (emit (wakeTrigger s) (.windowData t (postStatus (wakeTrigger s) t))) ∧
        exec (.registerWrite (.windowRead t 0x48 8)) s = .next (emit (wakeTrigger s) (.windowData t (queueFree (wakeTrigger s) t))) ∧
        exec (.registerWrite (.windowRead t 0x80 8)) s = .next (emit (wakeTrigger s) (.windowData t (cqTail s t))) ∧
        exec (.registerWrite (.windowRead t 0x88 8)) s = .next (emit (wakeTrigger s) (.windowData t (cqHead s t))) ∧
        exec (.registerWrite (.windowRead t 0x200 8)) s = .next (emit (wakeTrigger s) (.windowData t (tapStateWord (wakeTrigger s) t)))) ∧
      (∀ v, exec (.registerWrite (.windowWrite t 0x38 8 v)) s = exec (.descPost t (.word7 (u64 v))) s ∧
        exec (.registerWrite (.windowWrite t 0x88 8 v)) s = exec (.cqHeadWrite t (u64 v)) s ∧
        exec (.registerWrite (.windowWrite t 0x100 8 v)) s = exec (.flagSet t (u64 v)) s ∧
        exec (.registerWrite (.windowWrite t 0x108 8 v)) s = exec (.flagClear t (u64 v)) s ∧
        exec (.registerWrite (.windowWrite t 0x180 8 v)) s = exec (.sluiceArrive t (u64 v)) s) ∧
      (∀ o n, (o < 512 → exec (.registerWrite (.windowRead t (0x1000 + o) n)) s = exec (.poll t o n) s) ∧
        (o < 4096 → exec (.registerWrite (.windowRead t (0x2000 + o) n)) s = exec (.claim t o n) s)) ∧
      exec (.registerWrite (.windowRead t 0x188 8)) s = exec (.sluicePoll t false) s ∧
      exec (.registerWrite (.windowRead t 0x190 8)) s = exec (.sluicePoll t true) s ∧
      ∀ o n v,
        ((o < 0x40 ∧ ¬(n = 64 ∧ o = 0) ∧ ¬(n = 8 ∧ o % 8 = 0)) ∨ (0x1000 ≤ o ∧ o < 0x1200) ∨ (0x2000 ≤ o ∧ o < 0x3000) ∨
            (∃ r ∈ [0x40, 0x48, 0x80, 0x88, 0x100, 0x108, 0x180, 0x188, 0x190, 0x200], o / 8 * 8 = r ∧
              (n ≠ 8 ∨ o ≠ r ∨ r ∈ [0x40, 0x48, 0x80, 0x188, 0x190, 0x200])) →
          exec (.registerWrite (.windowWrite t o n v)) s = .next (cnt (wakeTrigger s) (0x7080 + t) 0x21)) ∧
        (o < 0x40 ∨ (∃ r ∈ [0x40, 0x48, 0x80, 0x88, 0x100, 0x108, 0x180, 0x188, 0x190, 0x200], o / 8 * 8 = r ∧
              (n ≠ 8 ∨ o ≠ r ∨ r ∈ [0x100, 0x108, 0x180])) →
          exec (.registerWrite (.windowRead t o n)) s = .next (emit (cnt (wakeTrigger s) (0x7080 + t) 0x21) (.windowData t 0)))) ∧
    (∀ i v, i < 80 → mbUnderWay s = false → s.paths.mbReq.length = 320 →
      gives (.registerWrite (.mailboxWrite (0x100 + 4 * i) 4 v)) s fun t =>
        exec (.registerWrite (.mailboxRead (0x100 + 4 * i) 4)) t = .next (emit t (.mailboxData (u32 v))) ∧
        { t with paths := s.paths } = s) ∧
    (∀ i, i < 80 → exec (.registerWrite (.mailboxRead (0x300 + 4 * i) 4)) s =
      .next (emit s (.mailboxData (u32 (bytesToNat ((s.paths.mbRsp.drop (4 * i)).take 4)))))) ∧
    exec (.registerWrite (.mailboxRead 0 4)) s = .next (emit s (.mailboxData 0x4E4C4D31)) ∧
    exec (.registerWrite (.mailboxRead 8 4)) s = .next (emit s (.mailboxData (u32 (mbStatusWord s)))) ∧
    (∀ v, exec (.registerWrite (.mailboxWrite 4 4 v)) s = exec (.go (u32 v)) s ∧
      exec (.registerWrite (.mailboxWrite 0x0C 4 v)) s = exec (.mbIrqWrite (u32 v)) s) ∧
    (∀ o n v, n ≠ 4 ∨ o % 4 ≠ 0 → exec (.registerWrite (.mailboxWrite o n v)) s = .next s ∧
      exec (.registerWrite (.mailboxRead o n)) s = .next (emit s (.mailboxData 0))) ∧
    (∀ p i sub data t, Serves s p → writeCheck s p i sub data = 0 → objectRule (ready s i) p i sub data none = (t, 0) →
      acceptedAs (.registerWrite (.odWrite p i sub data)) s p t) ∧
    (∀ p i sub, Reaches s p → readCheck s p i sub = 0 → ¬(i = 0x6040 ∧ sub = 1) →
      exec (.registerWrite (.odRead p i sub)) s =
        .next (emit (ready s i) (.odResponse p 0 (odBytes (ready s i) i sub)))) ∧
    ∀ p, Reaches s p → readCheck s p 0x6040 1 = 0 → gives (.registerWrite (.odRead p 0x6040 1)) s fun t =>
      t.outs = s.outs ++ [.odResponse p 0 (natToBytes (gtcNow t).toNat 8)] ∧ t.gtc.count = s.gtc.count ∧
      (s.gtc.sub < 10 → s.gtc.sub ≤ t.gtc.sub ∧ t.gtc.sub < 10)

/-- A GO with nothing under way and the engine free executes the local request in MB_REQ: the response stands in MB_RSP, BUSY is 0,
DONE is 1, and the interrupt becomes pending where it is enabled. A REMOTE request sets BUSY and leaves with HOPS 0: in RMODE 1 on
every port that carries virtual channel 3, in RMODE 2 on the first port of its path; where that port does not carry it, DONE is set
with STATUS UNREACHABLE. While the engine is held a GO waits and DONE is 0. While a request is under way, GO changes nothing but
MB_GO_IGNORED. A write of MB_IRQ sets the enable from bit 0 and clears the pending interrupt with bit 1. A remote request with no
response within IB_TIMEOUT ends with STATUS TIMEOUT. Log entries 55, 96 and 97 hold what the spec leaves open here. -/
def Obligations.MailboxRequests : Prop :=
  ∀ (s : State),
    (∀ v : U32, v.getLsbD 0 = true → v.getLsbD 1 = false → mbUnderWay s = false → s.resetting = false → s.swapping = false →
      gives (.go v) s fun t =>
        t.paths.mbBusy = false ∧ t.paths.mbDone = true ∧
        (∃ u rsp, serveBytes { s with paths := { s.paths with mbDone := false } } .regPort s.paths.mbReq = (u, rsp) ∧
          t.paths.mbRsp = padBytes rsp 320 ∧ t.paths.mbStatus = rspStatus rsp ∧ t.od = u.od) ∧
        t.paths.mbIrq = (s.paths.mbIrq || s.paths.mbIrqEn)) ∧
    (∀ v : U32, v.getLsbD 0 = true → v.getLsbD 1 = true → mbUnderWay s = false → s.resetting = false → s.swapping = false → Shaped s →
      ∀ m, mbMessage s = m → m.hops = 0 ∧ m.response = false ∧
        (m.rmode = 1 → gives (.go v) s fun t =>
          t.paths = { s.paths with mbBusy := true, mbDone := false, mbTag := some (reqTag m.request) } ∧
          (∀ n, n < s.params.latticePorts → (latAt t n).txq =
            (latAt s n).txq ++ (if portUp s (.lattice n) then flitsOf 3 0 0 (ibBytes m) else [])) ∧
          (∀ a, a < s.params.aditPorts → (aditAt t a).txq =
            (aditAt s a).txq ++ (if portUp s (.adit a) then flitsOf 3 0 0 (ibBytes m) else [])) ∧
          { t with paths := s.paths, lattice := s.lattice, adits := s.adits } = s) ∧
        (m.rmode = 2 → m.pathLen ≠ 0 →
          (∀ p, pathPort (m.fwdPath.getD 0 0xFF) = some p → portUp s p = true → exec (.go v) s = .next (queueFlits
            { s with paths := { s.paths with mbBusy := true, mbDone := false, mbTag := some (reqTag m.request) } } p
            (flitsOf 3 0 0 (ibBytes m)))) ∧
          ((pathPort (m.fwdPath.getD 0 0xFF)).all (fun p => !portUp s p) = true → gives (.go v) s fun t =>
            t.paths.mbBusy = false ∧ t.paths.mbDone = true ∧ t.paths.mbStatus = 0x0B ∧ t.lattice = s.lattice ∧ t.adits = s.adits ∧
            onlyObjects s t [(0x7001, 0x03)]))) ∧
    (∀ v : U32, v.getLsbD 0 = true → mbUnderWay s = false → s.resetting = true ∨ s.swapping = true →
      exec (.go v) s = .next { s with paths := { s.paths with mbDone := false }, held := s.held ++ [(.engine, .go v)] }) ∧
    (∀ v : U32, v.getLsbD 0 = true → mbUnderWay s = true → exec (.go v) s = .next (cnt s 0x7001 0x07)) ∧
    (∀ v : U32, v.getLsbD 0 = false → exec (.go v) s = .next s) ∧
    (∀ v : U32, exec (.mbIrqWrite v) s = .next { s with paths := { s.paths with
      mbIrqEn := v.getLsbD 0, mbIrq := s.paths.mbIrq && !v.getLsbD 1 } }) ∧
    (∀ e, s.paths.mbBusy = true → odGet s 0x1100 0x09 ≤ e → gives (.ibTimeout e) s fun t =>
      t.paths.mbBusy = false ∧ t.paths.mbDone = true ∧ t.paths.mbStatus = 0x0C ∧ { t with paths := s.paths } = s) ∧
    (∀ e, s.paths.mbBusy = false ∨ e < odGet s 0x1100 0x09 → exec (.ibTimeout e) s = .next s)

/-- A private write discards an unread response; of 16 to 272 bytes it carries one request, executed here as a request of the I3C path,
and its response is what the next private read returns, once; of another length it carries none. A private read with no response ready
is NACKed and changes nothing else. While the engine is held the request waits. A write of another length still discards the response
(log entry 99). -/
def Obligations.I3cPrivateTransfers : Prop :=
  ∀ (s : State),
    (∀ bs : List Byte, 16 ≤ bs.length → bs.length ≤ 272 → s.resetting = false → s.swapping = false →
      gives (.i3cPrivateWrite bs) s fun t => ∃ u rsp,
        serveBytes { s with paths := { s.paths with i3cRsp := none } } .i3c bs = (u, rsp) ∧
        t = { u with paths := { u.paths with i3cRsp := some rsp } } ∧
        exec .i3cPrivateRead t = .next (emit { t with paths := { t.paths with i3cRsp := none } } (.i3cData rsp))) ∧
    (∀ bs : List Byte, bs.length < 16 ∨ 272 < bs.length →
      exec (.i3cPrivateWrite bs) s = .next { s with paths := { s.paths with i3cRsp := none } }) ∧
    (∀ bs : List Byte, 16 ≤ bs.length → bs.length ≤ 272 → s.resetting = true ∨ s.swapping = true →
      exec (.i3cPrivateWrite bs) s = .next { s with
        paths := { s.paths with i3cRsp := none }, held := s.held ++ [(.engine, .i3cPrivateWrite bs)] }) ∧
    (∀ rsp, s.paths.i3cRsp = some rsp → exec .i3cPrivateRead s = .next (emit { s with paths := { s.paths with i3cRsp := none } } (.i3cData rsp))) ∧
    (s.paths.i3cRsp = none → exec .i3cPrivateRead s = .next (emit s .i3cNack))

/-- ENTDAA gives the target its dynamic address, SETDASA gives it the static one, RSTDAA takes it away; GETPID returns the 48-bit
provisional ID with the low bits of NODE_ID, GETBCR and GETDCR one zero byte, GETMWL and GETMRL 272, GETSTATUS two bytes of no stated
content. No GET command changes an object. The maker, the byte order and the contents of GETSTATUS are the model's (log entry 98). -/
def Obligations.I3cCommonCommands : Prop :=
  ∀ (s : State),
    (∀ a, exec (.entdaa a) s = .next (odSet s 0x1100 0x0B a.toNat)) ∧
    exec .setdasa s = .next (odSet s 0x1100 0x0B (odGet s 0x1100 0x0A)) ∧
    exec .rstdaa s = .next (odSet s 0x1100 0x0B 0) ∧
    exec .getpid s = .next (emit s (.i3cData (natToBytes (Config.i3cMaker.toNat * 2 ^ 33 + 2 ^ 32 + nodeId s % 2 ^ 32) 6).reverse)) ∧
    exec .getbcr s = .next (emit s (.i3cData [0])) ∧ exec .getdcr s = .next (emit s (.i3cData [0])) ∧
    (exec .getmwl s = .next (emit s (.i3cData [1, 16])) ∧ 256 * 1 + 16 = 272) ∧ exec .getmrl s = .next (emit s (.i3cData [1, 16])) ∧
    ∃ bs : List Byte, bs.length = 2 ∧ exec .getstatus s = .next { s with outs := s.outs ++ [.i3cData bs], freeCount := s.freeCount + 1 }

/-- At a port: after 16 hops, or with a reserved RMODE, it is dropped and counted. In RMODE 1 for another node, one whose key is in the
forward table is dropped and counted; one whose key is not takes a table place, the oldest of 256 leaving, and goes out, counted, on
every other port that carries virtual channel 3 while its HOPS are below HOP_LIMIT. In RMODE 2 short of its destination it goes out on
the port of its path, counted; where that port does not carry the channel a request is answered UNREACHABLE and a response dropped. A
request at its destination that was answered before is answered again from the kept response without executing; a new one executes as a
request of its SRC_NODE, and its response is kept; while the engine is held it waits, and the seventeenth is answered BUSY. An answer
leaves on the port the request came by, its path that of the request backward. A response that the mailbox waits for ends the request;
another changes nothing. A forward key goes after 100 ms, a kept response after 1 s, and the lock after LOCK_TIMEOUT. Log entries 95
and 96 hold what the spec leaves open here. -/
def Obligations.InBandRouting : Prop :=
  ∀ (s : State) (port : PortRef) (m : IbMsg), Shaped s → m.retPath.length = 16 →
    (match port with | .lattice n => n < s.params.latticePorts | .adit a => a < s.params.aditPorts) →
    (16 ≤ m.hops → exec (.ibMessage port m) s = .next (cnt s 0x7001 0x05)) ∧
    (m.hops < 16 → m.rmode ≠ 1 → m.rmode ≠ 2 → exec (.ibMessage port m) s = .next (cnt s 0x7001 0x05)) ∧
    (m.hops < 16 → m.rmode = 1 → m.destNode.toNat ≠ nodeId s → (m.srcNode, reqTag m.request, m.response) ∈ s.paths.fwd →
      exec (.ibMessage port m) s = .next (cnt s 0x7001 0x05)) ∧
    (m.hops < 16 → m.rmode = 1 → m.destNode.toNat ≠ nodeId s → (m.srcNode, reqTag m.request, m.response) ∉ s.paths.fwd →
      (m.hopLimit ≤ m.hops + 1 → exec (.ibMessage port m) s = .next { s with paths := { s.paths with
        fwd := s.paths.fwd.drop (if 256 ≤ s.paths.fwd.length then 1 else 0) ++ [(m.srcNode, reqTag m.request, m.response)] } }) ∧
      (m.hops + 1 < m.hopLimit → gives (.ibMessage port m) s fun t =>
        t.paths = { s.paths with
          fwd := s.paths.fwd.drop (if 256 ≤ s.paths.fwd.length then 1 else 0) ++ [(m.srcNode, reqTag m.request, m.response)] } ∧
        (∀ n, n < s.params.latticePorts → (latAt t n).txq = (latAt s n).txq ++
          (if portUp s (.lattice n) && port != .lattice n then flitsOf 3 0 0 (ibBytes (hopped m port)) else [])) ∧
        (∀ a, a < s.params.aditPorts → (aditAt t a).txq = (aditAt s a).txq ++
          (if portUp s (.adit a) && port != .adit a then flitsOf 3 0 0 (ibBytes (hopped m port)) else [])) ∧
        odGet t 0x7001 0x04 = min (odGet s 0x7001 0x04 + 1) 0xFFFFFFFF ∧ onlyObjects s t [(0x7001, 0x04)] ∧
        { t with paths := s.paths, lattice := s.lattice, adits := s.adits, od := s.od } = s)) ∧
    (m.hops < 16 → m.rmode = 2 → m.hops + 1 ≠ m.pathLen →
      (∀ p, pathPort (m.fwdPath.getD (m.hops + 1) 0xFF) = some p → portUp s p = true → exec (.ibMessage port m) s =
        .next (cnt (queueFlits s p (flitsOf 3 0 0 (ibBytes (hopped m port)))) 0x7001 0x04)) ∧
      ((pathPort (m.fwdPath.getD (m.hops + 1) 0xFF)).all (fun p => !portUp s p) = true →
        (m.response = true → exec (.ibMessage port m) s = .next (cnt s 0x7001 0x05)) ∧
        (m.response = false → answers (.ibMessage port m) s (cnt s 0x7001 0x03) port m (responseTo m.request 0x0B [])))) ∧
    (m.hops < 16 → ((m.rmode = 1 ∧ m.destNode.toNat = nodeId s) ∨ (m.rmode = 2 ∧ m.hops + 1 = m.pathLen)) →
      (m.response = true → s.paths.mbBusy = true → s.paths.mbTag = some (reqTag m.request) → gives (.ibMessage port m) s fun t =>
        t.paths.mbBusy = false ∧ t.paths.mbDone = true ∧ t.paths.mbStatus = rspStatus m.request ∧
        t.paths.mbRsp = padBytes (ibBytes (hopped m port)) 320 ∧ { t with paths := s.paths } = s) ∧
      (m.response = true → s.paths.mbBusy = false ∨ s.paths.mbTag ≠ some (reqTag m.request) → exec (.ibMessage port m) s = .next s) ∧
      (∀ k, m.response = false → (s.paths.kept.find? fun k => k.src == m.srcNode && k.tag == reqTag m.request) = some k →
        answers (.ibMessage port m) s s port m k.rsp) ∧
      (m.response = false → (s.paths.kept.find? fun k => k.src == m.srcNode && k.tag == reqTag m.request) = none →
        (s.resetting = false → s.swapping = false → ∃ u rsp, serveBytes s (.inBand m.srcNode) m.request = (u, rsp) ∧
          answers (.ibMessage port m) s { u with paths := { u.paths with
            kept := u.paths.kept.drop (if 16 ≤ u.paths.kept.length then 1 else 0) ++ [⟨m.srcNode, reqTag m.request, rsp⟩] } } port m rsp) ∧
        (s.resetting = true ∨ s.swapping = true → ibWaiting s < 16 →
          exec (.ibMessage port m) s = .next { s with held := s.held ++ [(.engine, .ibMessage port m)] }) ∧
        (s.resetting = true ∨ s.swapping = true → 16 ≤ ibWaiting s → pathOn s (.inBand m.srcNode) = true →
          answers (.ibMessage port m) s { cnt s 0x7001 0x03 with paths := { s.paths with
            kept := s.paths.kept.drop (if 16 ≤ s.paths.kept.length then 1 else 0) ++
              [⟨m.srcNode, reqTag m.request, responseTo m.request 9 []⟩] } } port m (responseTo m.request 9 [])))) ∧
    (∀ src tag r e, 100 ≤ e → exec (.ibForwardKeyExpiry src tag r e) s =
      .next { s with paths := { s.paths with fwd := s.paths.fwd.filter fun k => k != (src, tag, r) } }) ∧
    (∀ src tag r e, e < 100 → exec (.ibForwardKeyExpiry src tag r e) s = .next s) ∧
    (∀ src tag e, 1000 ≤ e → exec (.ibKeptResponseExpiry src tag e) s =
      .next { s with paths := { s.paths with kept := s.paths.kept.filter fun k => !(k.src == src && k.tag == tag) } }) ∧
    (∀ src tag e, e < 1000 → exec (.ibKeptResponseExpiry src tag e) s = .next s) ∧
    (∀ e, odGet s 0x1100 0x06 ≠ 0 → odGet s 0x1100 0x06 ≤ e → exec (.lockTimeout e) s = .next { s with lock := {} }) ∧
    (∀ e, odGet s 0x1100 0x06 = 0 ∨ e < odGet s 0x1100 0x06 → exec (.lockTimeout e) s = .next s)

/-- With no unstarted entry, or in another state than ACTIVE, while starts are held, during a block reset or behind a STEP_BARRIER,
nothing changes; with a clock domain off the domains start. A refused descriptor takes STATUS 3 and its code and is counted in REFUSED.
A data operation that starts, with a retention slot free where it needs one, keeps the active planes and the GTC of its start, and
ISSUED counts modulo 2^32 on exactly those planes; no flag, other tap or quern changes. A BARRIER without ORDER_CQ sends its arrival on
every active plane. -/
def Obligations.DescriptorStarts : Prop :=
  ∀ (s : State) (t : Nat), Shaped s → t < s.params.taps →
    ((∀ f ∈ (tapAt s t).queue, f.phase ≠ .queued) → exec (.descStart t) s = .next s) ∧
    ∀ f, ((tapAt s t).queue.find? fun f => f.phase == .queued) = some f →
      ((tapAt s t).state ≠ .active ∨ (tapAt s t).holding = true ∨ s.resetting = true ∨ stepFence (tapAt s t) f.id = true →
        exec (.descStart t) s = .next s) ∧
      ((tapAt s t).state = .active → (tapAt s t).holding = false → s.resetting = false → stepFence (tapAt s t) f.id = false →
        (fabricAsleep s = true ∨ s.power.common = false ∨ (∃ k ∈ activePlanes s, s.power.planes.getLsbD k = false) →
          exec (.descStart t) s = .next (startFabric s)) ∧
        (fabricAsleep s = false → s.power.common = true → (∀ k ∈ activePlanes s, s.power.planes.getLsbD k = true) →
          flightAt s t f.id = some f →
          (∀ code cause, startCheck s t f = .refuse code cause → gives (.descStart t) s fun s' =>
            (∃ g ∈ (tapAt s' t).queue, g.id = f.id ∧ g.desc = f.desc ∧ g.status = 3 ∧ g.code = code) ∧
            odGet s' (0x7080 + t) 0x26 = min (odGet s (0x7080 + t) 0x26 + 1) 0xFFFFFFFF ∧ otherTaps s s' t ∧ s'.flags = s.flags) ∧
          (startCheck s t f = .start → f.desc.isData = true →
            (takesSlot f.desc = true → (freeSlot (tapAt s t)).isSome = true) → gives (.descStart t) s fun s' =>
              (∃ g ∈ (tapAt s' t).queue, g.id = f.id ∧ g.desc = f.desc ∧ g.gtcStart = gtcNow s ∧ g.planes = activePlanes s) ∧
              (∀ k, k < 8 → odGet s' (0x7080 + t) (1 + k) =
                if k ∈ activePlanes s then (odGet s (0x7080 + t) (1 + k) + 1) % 2 ^ 32 else odGet s (0x7080 + t) (1 + k)) ∧
              otherTaps s s' t ∧
              { s' with od := s.od, taps := s.taps, sump := s.sump, outs := s.outs, onDie := s.onDie } = s) ∧
          (startCheck s t f = .start → f.desc.op = 6 → f.desc.orderCq = false → gives (.descStart t) s fun s' =>
            ∀ k ∈ activePlanes s, ∃ m : Message, .barrierArrive (t / 16) (t % 16) m ∈ s'.onDie ∧ m.plane = k ∧
              m.bucket = f.desc.bucket ∧ m.step = f.desc.step ∧ m.span = ⟨(tapAt s t).contrib, 0⟩)))

/-- A response for a tag without a request changes nothing. Good read data joins the source of its running entry at its offset, and
with more reads outstanding nothing else changes. Poisoned data, or data of an uncorrectable codeword, is not used: the entry fails
with E_ECC_UNCORR, an operation on planes by an ABORT of that code on each of its planes, any other by its record; a codeword that
fails its residue check does the same with E_RESIDUE_CHECK. A write response with writes of the entry outstanding only frees the tag; a
failed write of a result makes the entry one that ends with E_ECC_UNCORR, at once where its planes have delivered. When the last write
of a completion record is visible, CQ_TAIL counts modulo 2^32 and the entry leaves the queue. A bad response at a package port writes
one E_ECC_UNCORR record, and a good one changes nothing there (log entry 126). A tap sends nothing of a chunk before its whole source
is read (log entry 71). -/
def Obligations.MemoryResponses : Prop :=
  ∀ (s : State) (port tag : Nat), Shaped s →
    (s.params.leafQuerns ≤ port → port < s.params.memPorts → ∀ bs poison u werr,
      (poison = false → u ≠ .ecc → exec (.memReadResponse port tag bs poison u) s = .next s) ∧
      (poison = true ∨ u = .ecc → gives (.memReadResponse port tag bs poison u) s fun s' => s'.sump.recs.length ≤ s.sump.recs.length + 1 ∧
        { s' with sump := s.sump, freeCount := s.freeCount, od := s.od } = s) ∧
      (werr = false → exec (.memWriteResponse port tag werr) s = .next s)) ∧
    (port * 16 + tag / 64 < s.params.taps →
      (∀ bs poison u, memOf (tapAt s (port * 16 + tag / 64)) tag false = none → exec (.memReadResponse port tag bs poison u) s = .next s) ∧
      (∀ werr, memOf (tapAt s (port * 16 + tag / 64)) tag true = none → exec (.memWriteResponse port tag werr) s = .next s) ∧
      (∀ t r f off, t = port * 16 + tag / 64 → memOf (tapAt s t) tag false = some r → r.role = .source off → flightAt s t r.id = some f →
        f.phase = .running → f.failing = false → ∀ bs,
        (readsLeft (tapAt (memDone s t tag) t) r.id = true → gives (.memReadResponse port tag bs false .none) s fun s' =>
          (∃ g, flightAt s' t r.id = some g ∧ g.source = f.source ++ [(off, bs.drop r.skip)]) ∧ otherTaps s s' t ∧
          { s' with taps := s.taps, outs := s.outs } = s) ∧
        ∀ poison u code, (code = 0x000E ∧ (poison = true ∨ u = .ecc)) ∨ (code = 0x000C ∧ poison = false ∧ u = .residue) →
          gives (.memReadResponse port tag bs poison u) s fun s' =>
            (f.desc.isPlane = true → tapFailed s' t f code) ∧
            (f.desc.isPlane = false → ∃ g ∈ (tapAt s' t).queue, g.id = f.id ∧ g.status = 2 ∧ g.code = code)) ∧
      (∀ t r, t = port * 16 + tag / 64 → memOf (tapAt s t) tag true = some r → r.role = .dst →
        (writesLeft (tapAt (memDone s t tag) t) r.id = true → exec (.memWriteResponse port tag false) s = .next (pumpMem (memDone s t tag) t)) ∧
        ∀ f, flightAt s t r.id = some f → f.phase = .running ∨ f.phase = .settling → f.writeFail = none → f.status ≠ 2 →
          gives (.memWriteResponse port tag true) s fun s' => ∃ g ∈ (tapAt s' t).queue, g.id = f.id ∧
            (∃ e, g.writeFail = some e ∧ e.code = 0x000E) ∧ (f.phase = .settling → g.status = 2 ∧ g.code = 0x000E)) ∧
      (∀ t r f, t = port * 16 + tag / 64 → memOf (tapAt s t) tag true = some r → r.role = .record → flightAt s t r.id = some f →
        (∀ q ∈ (tapAt (memDone s t tag) t).mem, q.role ≠ .record) → gives (.memWriteResponse port tag false) s fun s' =>
          odGet s' (0x3000 + t) 0x06 = (odGet s (0x3000 + t) 0x06 + 1) % 2 ^ 32 ∧ (∀ g ∈ (tapAt s' t).queue, g.id ≠ r.id) ∧
          (s'.gallery.rows = if f.status = 0 ∨ f.status = 2 then (galTapRecord s t f).gallery.rows else s.gallery.rows)))

/-- TILE_SETTLED with a tile requested begins to read it and requests the next one, if there is one; while the requested tile is read
already, or with no drain, the level stands for the next request (log entry 125). A beat is kept until the tile is whole; a beat
without a drain changes nothing. A drain timeout before its limit changes nothing; at it the entry fails with E_DRAIN_TIMEOUT on each
of its planes. HANDOVER_ACCEPT takes the record on offer, counts the sequence number modulo 2^16, adds the stall, a free value, to the
tap's HANDOVER_STALL, and the next record is then due to be offered (log entry 77); with nothing to offer it changes nothing but what
is due. -/
def Obligations.DrainsAndHandover : Prop :=
  ∀ (s : State) (t : Nat), Shaped s → t < s.params.taps →
    (draining (tapAt s t) = none → exec (.tileSettled t) s = .next (modTap s t fun x => { x with settled := true }) ∧
      (∀ b, exec (.coreDrainValid t b) s = .next s) ∧ ∀ e, exec (.drainTimeout t e) s = .next s) ∧
    (∀ f, draining (tapAt s t) = some f → flightAt s t f.id = some f →
      (f.drain.wanted = true → f.drain.settled = false → f.drain.reading = none → gives (.tileSettled t) s fun s' =>
        s'.outs = s.outs ++ (if f.drain.next < tileCount f.desc then [.drainReq t (firstTile f.desc + f.drain.next)] else []) ∧
        (∃ g, flightAt s' t f.id = some g ∧ g.drain.reading = some (f.drain.next - 1)) ∧ otherTaps s s' t ∧
        { s' with taps := s.taps, outs := s.outs } = s) ∧
      (f.drain.wanted = false ∨ f.drain.reading = some (f.drain.next - 1) → f.drain.settled = false → f.drain.next ≠ 0 →
        exec (.tileSettled t) s = .next (modTap s t fun x => { x with settled := true })) ∧
      (∀ r b, f.drain.reading = some r → f.drain.beats.length + 1 < tileBytes f.desc / 256 → gives (.coreDrainValid t b) s fun s' =>
        (∃ g, flightAt s' t f.id = some g ∧ g.drain.beats = b :: f.drain.beats) ∧ otherTaps s s' t ∧ { s' with taps := s.taps } = s) ∧
      (∀ e, e < f.drain.limit ∨ f.drain.settled = true ∨ f.drain.reading = some (f.drain.next - 1) →
        exec (.drainTimeout t e) s = .next s) ∧
      (∀ e, f.drain.limit ≤ e → f.drain.wanted = true → f.drain.settled = false → f.drain.reading ≠ some (f.drain.next - 1) →
        f.desc.isPlane = true → f.phase ≠ .replanWait → gives (.drainTimeout t e) s fun s' => tapFailed s' t f 0x0002)) ∧
    (s.handoverQ = [] → exec .handoverAccept s = .next { s with offerDue := false }) ∧
    (∀ u id rest, s.handoverQ = (u, id) :: rest → gives .handoverAccept s fun s' =>
      s'.handoverQ = rest ∧ s'.handoverSeq = s.handoverSeq + 1 ∧ s'.offerDue = !rest.isEmpty ∧
      odGet s' (0x7080 + u) 0x22 = min (odGet s (0x7080 + u) 0x22 + freeVal s) 0xFFFFFFFFFFFFFFFF)

/-- The backstop of a plane operation fires at twice its bucket limit: the entry ends with STATUS ERROR and E_BUCKET_TIMEOUT, unless
every plane has delivered or aborted; before that, or for a bucket not started, nothing changes. T_REPLAN ends an entry in REPLAN_WAIT
with the failure of its abort. -/
def Obligations.TapTimeouts : Prop :=
  ∀ (s : State) (t e : Nat) (bucket : U32) (step : U64), t < s.params.taps →
    (∀ f, ((tapAt s t).queue.find? fun f => f.desc.isPlane && f.desc.bucket == bucket && f.desc.step == step
        && (f.phase == .running || f.phase == .waitArrive)) = some f →
      (e < 2 * limitOf f.limits (crossesAdit s) ∨ (∀ k ∈ f.planes, f.delivered.contains k = true ∨ (assocGet k f.aborts).isSome = true) →
        exec (.tapBackstopTimeout t bucket step e) s = .next s) ∧
      (2 * limitOf f.limits (crossesAdit s) ≤ e → flightAt s t f.id = some f →
        (∃ k ∈ f.planes, f.delivered.contains k = false ∧ assocGet k f.aborts = none) →
        gives (.tapBackstopTimeout t bucket step e) s fun s' =>
          ∃ g ∈ (tapAt s' t).queue, g.id = f.id ∧ g.status = 2 ∧ g.code = 0x0001)) ∧
    (((tapAt s t).queue.find? fun f => f.desc.isPlane && f.desc.bucket == bucket && f.desc.step == step
        && (f.phase == .running || f.phase == .waitArrive)) = none → exec (.tapBackstopTimeout t bucket step e) s = .next s) ∧
    (e < odGet s 0x7010 0x02 → exec (.replanTimeout t bucket step e) s = .next s) ∧
    (∀ f e', odGet s 0x7010 0x02 ≤ e → ((tapAt s t).queue.find? fun f => f.desc.bucket == bucket && f.desc.step == step
        && f.phase == .replanWait) = some f → flightAt s t f.id = some f → f.failed = some e' →
      gives (.replanTimeout t bucket step e) s fun s' =>
        ∃ g ∈ (tapAt s' t).queue, g.id = f.id ∧ g.status = 2 ∧ g.code = e'.code)

/-- A message for no live entry of the tap is dropped and counted. For a live entry, where no plane of an EXACT bucket has asked for a
retry, of the run and attempt in force and of a plane of the entry that has not delivered: a COMMIT, a release and the last RESULT mark
the plane as delivered, STATS_ROW and STATS_MERGED are kept, and a second COMMIT is dropped. A STEP_RELEASE sets ISSUED, DELIVERED and
ACCEPTED of its plane to 0 first. What is dropped counts in the tap's DUPLICATES (log entry 84). -/
def Obligations.TailraceAtTap : Prop :=
  ∀ (s : State) (t : Nat) (m : Message), Shaped s → t < s.params.taps → m.plane < 8 →
    (liveFlight (tapAt s t) m = none →
      exec (.result ⟨.tap t, .none⟩ m) s = .next (tapDrop s t) ∧ exec (.commit ⟨.tap t, .none⟩ m) s = .next (tapDrop s t) ∧
      exec (.retry ⟨.tap t, .none⟩ m) s = .next (tapDrop s t) ∧ exec (.prepassAnswer ⟨.tap t, .none⟩ m) s = .next (tapDrop s t) ∧
      exec (.statsRow ⟨.tap t, .none⟩ m) s = .next (tapDrop s t) ∧ exec (.statsMerged ⟨.tap t, .none⟩ m) s = .next (tapDrop s t) ∧
      exec (.barrierRelease (.tap t) m) s = .next (tapDrop s t) ∧ exec (.abort (.down (.tap t)) m) s = .next (tapDrop s t)) ∧
    (∀ f, liveFlight (tapAt s t) m = some f → flightAt s t f.id = some f → m.run = f.run % 8 → m.plane ∈ f.planes →
      m.attempt = planeAttempt f m.plane → (f.desc.exact = false ∨ f.retries = []) →
      (f.results.contains m.plane = true → exec (.commit ⟨.tap t, .none⟩ m) s = .next (tapDrop (modFlight s t f.id fun f => { f with
          paused := f.paused || m.paused, outRange := f.outRange || m.outRange
          chunks := match m.chunk with | some c => assocPut m.plane (c.1, c.1 + c.2) f.chunks | none => f.chunks }) t)) ∧
      (f.results.contains m.plane = false →
        (∀ c, c = .commit ⟨.tap t, .none⟩ m ∨ c = .barrierRelease (.tap t) m ∨ (m.lastSeg = true ∧ c = .result ⟨.tap t, .none⟩ m) →
          gives c s fun s' => ∃ g ∈ (tapAt s' t).queue, g.id = f.id ∧ m.plane ∈ g.results) ∧
        (f.desc.isData = false → gives (.stepRelease (.tap t) m) s fun s' =>
          (∃ g ∈ (tapAt s' t).queue, g.id = f.id ∧ m.plane ∈ g.results) ∧
          odGet s' (0x7080 + t) (1 + m.plane) = 0 ∧ odGet s' (0x7080 + t) (9 + m.plane) = 0 ∧
          odGet s' (0x7080 + t) (0x11 + m.plane) = 0)) ∧
      (∀ ws, m.body = .rows ws → gives (.statsRow ⟨.tap t, .none⟩ m) s fun s' =>
        ∃ g ∈ (tapAt s' t).queue, g.id = f.id ∧ assocGet m.plane g.rowStats = some ws) ∧
      (∀ h cs, m.body = .merged h cs → gives (.statsMerged ⟨.tap t, .none⟩ m) s fun s' =>
        ∃ g ∈ (tapAt s' t).queue, g.id = f.id ∧ g.stats = h ∧ g.colStats = cs))

/-- For a live entry of the run and attempt in force: a RETRY of a SCALED bucket on a plane that has not delivered marks the plane as
retried with the scales it carries; a PREPASS_ANSWER that is the first of its plane keeps its exponent; an ABORT that neither a re-send
nor a re-run answers is kept for its plane. STATS_PARTIAL reaches the carrier of its plane, which sends it on the merge plane as
STATS_PASS where it holds a started descriptor of the key in that run; anywhere else it is dropped and counted. A message whose
codeword is lost at the tap fails an entry that can still commit with E_ECC_UNCORR, by an ABORT on each of its planes, and is dropped
and counted where no entry takes it. What is dropped counts in the tap's DUPLICATES (log entry 84). -/
def Obligations.RetriesAndAnswersAtTap : Prop :=
  ∀ (s : State) (t : Nat) (m : Message), t < s.params.taps →
    (∀ f, liveFlight (tapAt s t) { m with code := .retry } = some f → flightAt s t f.id = some f → m.run = f.run % 8 → m.plane ∈ f.planes →
      m.attempt = planeAttempt f m.plane → f.results.contains m.plane = false → f.retries.contains m.plane = false →
      f.desc.disc = 5 → f.aborts = [] → f.failing = false → f.phase = .running → gives (.retry ⟨.tap t, .none⟩ m) s fun s' =>
        ∃ g ∈ (tapAt s' t).queue, g.id = f.id ∧ m.plane ∈ g.retried ∧ assocGet m.plane g.scales = some m.body.scaleList) ∧
    (∀ f, liveFlight (tapAt s t) { m with code := .prepassAnswer } = some f → flightAt s t f.id = some f → m.run = f.run % 8 →
      m.plane ∈ f.planes → m.attempt = planeAttempt f m.plane → f.desc.auto = true → f.desc.frozen = false →
      assocGet m.plane f.answers = none → gives (.prepassAnswer ⟨.tap t, .none⟩ m) s fun s' =>
        ∃ g ∈ (tapAt s' t).queue, g.id = f.id ∧ assocGet m.plane g.answers = some m.maxexp ∧ g.prepassDone = true) ∧
    (∀ f, liveFlight (tapAt s t) { m with code := .abort } = some f → flightAt s t f.id = some f → m.run = f.run % 8 → m.plane ∈ f.planes →
      f.phase ≠ .replanWait → resendable (failInfoOf m) = false → replannable s (failInfoOf m) = false →
      gives (.abort (.down (.tap t)) m) s fun s' =>
        ∃ g ∈ (tapAt s' t).queue, g.id = f.id ∧ (assocGet m.plane g.aborts).isSome = true) ∧
    (∀ f ∈ (tapAt s t).queue, inWindow f = true → f.desc.isPlane = true → f.desc.bucket = m.bucket → f.desc.step = m.step → f.run % 8 = m.run →
      tapBound (tapAt s t).state = true → (tapAt s t).contrib = carrierOf s m.plane →
      exec (.statsPartial ⟨.tap t, .none⟩ m) s = .next (post s (.statsPass (t / 16) (t % 16)
        { m with code := .statsPass, plane := mergePlane s, lastSeg := true, span := ⟨(tapAt s t).contrib, 0⟩ } .none))) ∧
    (tapBound (tapAt s t).state = false ∨ (tapAt s t).contrib ≠ carrierOf s m.plane ∨
        (∀ f ∈ (tapAt s t).queue, inWindow f = false ∨ f.desc.isPlane = false ∨ f.desc.bucket ≠ m.bucket ∨ f.desc.step ≠ m.step ∨ f.run % 8 ≠ m.run) →
      exec (.statsPartial ⟨.tap t, .none⟩ m) s = .next (tapDrop s t)) ∧
    ∀ c ∈ [Instr.result ⟨.tap t, .ecc⟩ m, .commit ⟨.tap t, .ecc⟩ m, .retry ⟨.tap t, .ecc⟩ m, .prepassAnswer ⟨.tap t, .ecc⟩ m,
        .statsRow ⟨.tap t, .ecc⟩ m, .statsPartial ⟨.tap t, .ecc⟩ m, .statsMerged ⟨.tap t, .ecc⟩ m],
      (∀ f, liveFlight (tapAt s t) m = some f → flightAt s t f.id = some f → m.run = f.run % 8 → m.plane ∈ f.planes → stillGood f = true →
        gives c s fun s' => tapFailed s' t f 0x000E) ∧
      (∀ f, liveFlight (tapAt s t) m = some f → m.run ≠ f.run % 8 ∨ m.plane ∉ f.planes ∨ stillGood f = false → exec c s = .next (tapDrop s t)) ∧
      (liveFlight (tapAt s t) m = none → exec c s = .next (tapDrop s t))

/-- At a quern that does not work on the message's plane nothing changes; at a position that a spare is taking the message waits. At a
served position, on a present input with the span configured for it, with nothing ahead of it, no injection armed and, for a segment, a
segment buffer free (log entry 27), the first message of a key opens its entry in a bucket table with room and joins it: a segment or
arrival is buffered under its input, a PREPASS kept, an OPEN noted, while another input has still to send. STATS_PASS on the carrier's
input goes on toward the plane root, and on another input or an absent one is dropped and counted. A segment on an input that is not
present, or with another span, is counted in UNEXPECTED and fails the bucket with E_CONTRIB_UNEXPECTED; one past the last that its
arrival counter expects is counted there and fails it with E_ARRIVAL_UNDERFLOW; either failure names the quern, and its ABORT goes out.
A segment in which a check finds an upset fences the quern with the code of that check (log entry 87). -/
def Obligations.HeadraceAtQuern : Prop :=
  ∀ (s : State) (q i : Nat) (m : Message), Shaped s → q < s.params.positions → i < 16 →
    (m.plane ∉ planesOf s q →
      exec (.segment q i m .none) s = .next s ∧ exec (.prepass q i m) s = .next s ∧ exec (.openNote q i m) s = .next s ∧
      exec (.barrierArrive q i m) s = .next s ∧ exec (.stepArrive q i m) s = .next s ∧ exec (.statsPass q i m .none) s = .next s) ∧
    (m.plane ∈ planesOf s q → (quernAt s q).switching.isSome = true →
      exec (.segment q i m .none) s = .next (waitAt s q i { m with code := .segment }) ∧
      exec (.prepass q i m) s = .next (waitAt s q i { m with code := .prepass }) ∧
      exec (.openNote q i m) s = .next (waitAt s q i { m with code := .openNote }) ∧
      exec (.barrierArrive q i m) s = .next (waitAt s q i { m with code := .barrierArrive }) ∧
      exec (.stepArrive q i m) s = .next (waitAt s q i { m with code := .stepArrive }) ∧
      exec (.statsPass q i m .none) s = .next (waitAt s q i { m with code := .statsPass })) ∧
    (m.plane ∈ planesOf s q → (quernAt s q).switching = none → (quernAt s q).server.isSome = true → s.inject.armed = false →
      i ∉ (quernAt s q).refusedInputs →
      ((inputAt s q i).src ≠ .none → m.span = (inputAt s q i).span →
        ((quernAt s q).waiting = [] →
          findEntry (quernAt s q) m.bucket m.step m.plane = none → findClosed (quernAt s q) m.bucket m.step m.plane = none →
          ((quernAt s q).entries.length < 256 → (∃ c ∈ inputsOf s q, c.input ≠ i) →
            (∀ c code, (buffersUsed s q i < 2 ∧ c = .segment q i m .none ∧ code = .segment) ∨
                (c = .barrierArrive q i m ∧ code = .barrierArrive) ∨ (c = .stepArrive q i m ∧ code = .stepArrive) →
              gives c s fun s' => ∃ e, findEntry (quernAt s' q) m.bucket m.step m.plane = some e ∧ e.attempt = m.attempt ∧ e.run = m.run ∧
                (i, { m with code := code }) ∈ e.buf ∧ s'.taps = s.taps) ∧
            (2 ≤ buffersUsed s q i → exec (.segment q i m .none) s = .next (waitAt s q i { m with code := .segment })) ∧
            (gives (.prepass q i m) s fun s' => ∃ e, findEntry (quernAt s' q) m.bucket m.step m.plane = some e ∧
              (assocGet i e.prepass).isSome = true) ∧
            gives (.openNote q i m) s fun s' => ∃ e, findEntry (quernAt s' q) m.bucket m.step m.plane = some e ∧ i ∈ e.opened) ∧
          (isRoot s q m.plane = false → spanHas (inputAt s q i).span (carrierOf s m.plane) = true →
            exec (.statsPass q i m .none) s = .next (quernUp (quernCnt s q 0x16 1) q { m with code := .statsPass })) ∧
          (spanHas (inputAt s q i).span (carrierOf s m.plane) = false →
            exec (.statsPass q i m .none) s = .next (quernCnt s q 0x15 1))) ∧
        ((quernAt s q).waiting = [] → ∀ e, findEntry (quernAt s q) m.bucket m.step m.plane = some e → e.headDone = true → e.run = m.run →
          e.attempt = m.attempt → e.s0 ≤ m.seg → bufferedAt e i m.seg = none → buffersUsed s q i < 2 →
          quernAborts (.segment q i m .none) s q m fun u f => f.code = 0x0003 ∧ f.objKind = 2 ∧ f.obj = quernNo s q ∧
            odGet u (0x7020 + q) 0x19 = min (odGet s (0x7020 + q) 0x19 + 1) 0xFFFFFFFF) ∧
        (gives (.segment q i m .ecc) s fun s' => quernFenced s s' q 0x000E) ∧
        (gives (.segment q i m .residue) s fun s' => quernFenced s s' q 0x000C) ∧
        ∀ a, m.agree = some a → gives (.segment q i m .echo) s fun s' =>
          quernFenced s s' q (if (a.desc m.bucket m.step).exact then 0x000B else 0x000C)) ∧
      ((inputAt s q i).src = .none ∨ m.span ≠ (inputAt s q i).span →
        quernAborts (.segment q i m .none) s q m fun u f => f.code = 0x0004 ∧ f.objKind = 2 ∧ f.obj = quernNo s q ∧
          f.contrib = m.span.base ∧ odGet u (0x7020 + q) 0x19 = min (odGet s (0x7020 + q) 0x19 + 1) 0xFFFFFFFF) ∧
      ((inputAt s q i).src = .none → exec (.statsPass q i m .none) s = .next (quernCnt s q 0x15 1)))

/-- At a position without a serving quern only an ABORT acts (log entry 86). A RESULT, COMMIT, RETRY, PREPASS_ANSWER or BARRIER_RELEASE
without the entry it answers changes nothing. With it, the last RESULT and a COMMIT close the entry as passed, a RETRY closes it as
retried and a release closes it; a RESULT before the last is kept; a PREPASS_ANSWER goes down every present input, under the input's
span. A message whose codeword is lost fences the quern with E_ECC_UNCORR. STATS_ROW and STATS_MERGED pass under the agreement set of
the bucket, STATS_PARTIAL toward the carrier. STEP_RELEASE starts ACCEPTED of its plane again. -/
def Obligations.TailraceAtQuern : Prop :=
  ∀ (s : State) (q : Nat) (m : Message), Shaped s → q < s.params.positions →
    ((quernAt s q).server = none →
      (∀ x : Upset, ∀ c ∈ [Instr.result ⟨.quern q, x⟩ m, .commit ⟨.quern q, x⟩ m, .retry ⟨.quern q, x⟩ m, .prepassAnswer ⟨.quern q, x⟩ m,
        .statsRow ⟨.quern q, x⟩ m, .statsPartial ⟨.quern q, x⟩ m, .statsMerged ⟨.quern q, x⟩ m], exec c s = .next s) ∧
      exec (.barrierRelease (.quern q) m) s = .next s ∧ exec (.stepRelease (.quern q) m) s = .next s) ∧
    ((quernAt s q).server.isSome = true →
      (∀ c ∈ [Instr.result ⟨.quern q, .ecc⟩ m, .commit ⟨.quern q, .ecc⟩ m, .retry ⟨.quern q, .ecc⟩ m, .prepassAnswer ⟨.quern q, .ecc⟩ m,
          .statsRow ⟨.quern q, .ecc⟩ m, .statsPartial ⟨.quern q, .ecc⟩ m, .statsMerged ⟨.quern q, .ecc⟩ m],
        (m.plane ∉ planesOf s q → exec c s = .next s) ∧ (m.plane ∈ planesOf s q → gives c s fun s' => quernFenced s s' q 0x000E)) ∧
      (answered s q m = none →
        exec (.result ⟨.quern q, .none⟩ m) s = .next s ∧ exec (.commit ⟨.quern q, .none⟩ m) s = .next s ∧ exec (.retry ⟨.quern q, .none⟩ m) s = .next s ∧
        exec (.prepassAnswer ⟨.quern q, .none⟩ m) s = .next s ∧ exec (.barrierRelease (.quern q) m) s = .next s) ∧
      (∀ e, answered s q m = some e →
        (∀ c retried counted, (c = .commit ⟨.quern q, .none⟩ m ∧ retried = false ∧ counted = true) ∨
            (m.lastSeg = true ∧ c = .result ⟨.quern q, .none⟩ m ∧ retried = false ∧ counted = true) ∨
            (c = .retry ⟨.quern q, .none⟩ m ∧ retried = true ∧ counted = false) ∨
            (c = .barrierRelease (.quern q) m ∧ retried = false ∧ counted = false) →
          gives c s fun s' => findEntry (quernAt s' q) m.bucket m.step m.plane = none ∧
            ∃ k, findClosed (quernAt s' q) m.bucket m.step m.plane = some k ∧ k.attempt = m.attempt ∧ k.run = m.run ∧
              k.retried = retried ∧ k.counted = counted ∧ s'.taps = s.taps ∧
              (s'.gallery.rows = if counted then (recordClose s q e).gallery.rows else s.gallery.rows)) ∧
        (m.lastSeg = false → gives (.result ⟨.quern q, .none⟩ m) s fun s' => ∃ e', findEntry (quernAt s' q) m.bucket m.step m.plane = some e' ∧
          e'.kept.length = e.kept.length + 1 ∧ otherQuerns s s' q ∧ { s' with querns := s.querns } = s) ∧
        exec (.prepassAnswer ⟨.quern q, .none⟩ m) s = .next (quernDownAll (putEntry s q e) q { m with code := .prepassAnswer }) ∧
        (gives (.prepassAnswer ⟨.quern q, .none⟩ m) s fun s' => s'.taps = s.taps ∧ ∀ c ∈ inputsOf s q,
          (∀ t, c.src = .tap t → .prepassAnswer ⟨.tap t, .none⟩ { m with code := .prepassAnswer, span := c.span } ∈ s'.onDie) ∧
          ∀ r, c.src = .quern r → .prepassAnswer ⟨.quern r, .none⟩ { m with code := .prepassAnswer, span := c.span } ∈ s'.onDie)) ∧
      (∀ d ws, trailerDesc s q m = some d → m.body = .rows ws → exec (.statsRow ⟨.quern q, .none⟩ m) s =
        .next (passRows s q d (rowsFrom s q m d) ws { m with code := .statsRow })) ∧
      (∀ d, trailerDesc s q m = some d → exec (.statsMerged ⟨.quern q, .none⟩ m) s = .next (passMerged s q d { m with code := .statsMerged })) ∧
      exec (.statsPartial ⟨.quern q, .none⟩ m) s = .next (passToward s q (carrierOf s m.plane) { m with code := .statsPartial }) ∧
      gives (.stepRelease (.quern q) m) s fun s' => ∀ i, i < 16 → RegFile.get 0 (m.plane * 16 + i) (quernAt s' q).accepted = 0)

/-- An ABORT at a quern of its plane leaves no open entry and no closed key of its bucket there (log entry 83). A PAUSE notice marks
its spans; a RESUME takes its spans away; the marks of the oldest notice end after its T_PAUSE_MAX, and at a leaf quern PAUSE_STATE
reads EXPIRED. A bucket's timer that has not reached its limit, or does not count, changes nothing; at the limit the bucket fails with
E_BUCKET_TIMEOUT, with BUCKET_TIMEOUTS counted and an ABORT sent. A spare that has taken its position serves it. Messages that wait at
an input are offered again in order. -/
def Obligations.AbortsPausesAndTimers : Prop :=
  ∀ (s : State) (q : Nat), Shaped s → q < s.params.positions →
    (∀ (i : Nat) (m : Message), m.plane ∈ planesOf s q → gives (.abort (.up q i) m) s fun s' =>
      findEntry (quernAt s' q) m.bucket m.step m.plane = none ∧ findClosed (quernAt s' q) m.bucket m.step m.plane = none ∧
      s'.taps = s.taps) ∧
    (∀ m : Message, gives (.abort (.down (.quern q)) m) s fun s' =>
      findEntry (quernAt s' q) m.bucket m.step m.plane = none ∧ findClosed (quernAt s' q) m.bucket m.step m.plane = none) ∧
    (∀ (i : Nat) (m : Message) (l : List Span), m.body = .spans l →
      (gives (.pause q i m) s fun s' => (∀ p ∈ l, p ∈ (quernAt s' q).pausedSpans) ∧ otherQuerns s s' q ∧ s'.taps = s.taps) ∧
      gives (.resume q i m) s fun s' => (∀ p ∈ (quernAt s' q).pausedSpans, p ∈ (quernAt s q).pausedSpans ∧ p ∉ l) ∧
        otherQuerns s s' q ∧ s'.taps = s.taps) ∧
    ((quernAt s q).notices = [] → ∀ e, exec (.pauseExpiry q e) s = .next s) ∧
    (∀ n l, (quernAt s q).notices = n :: l → ∀ e, (e < n.1 → exec (.pauseExpiry q e) s = .next s) ∧
     (n.1 ≤ e → gives (.pauseExpiry q e) s fun s' =>
      (quernAt s' q).notices = l ∧ { quernAt s' q with notices := n :: l } = quernAt s q ∧ otherQuerns s s' q ∧
      (isLeaf s q = true → odGet s 0x6030 0x02 = 1 → odGet s' 0x6030 0x02 = 2) ∧ onlyObjects s s' [(0x6030, 0x02)])) ∧
    (∀ k b st e, findEntry (quernAt s q) b st k = none → exec (.bucketTimeout q k b st e) s = .next s) ∧
    (∀ k b st e en, findEntry (quernAt s q) b st k = some en →
      (e < entryLimit s q en ∨ timerRuns s q en = false → exec (.bucketTimeout q k b st e) s = .next s) ∧
      (entryLimit s q en ≤ e → timerRuns s q en = true → quernAborts (.bucketTimeout q k b st e) s q (entryMsg en .abort)
        fun u f => f.code = 0x0001 ∧ f.obj = quernNo s q ∧ (f.objKind = if en.merging then 5 else 2) ∧
          odGet u (0x7020 + q) 0x1A = min (odGet s (0x7020 + q) 0x1A + 1) 0xFFFFFFFF)) ∧
    (∀ n, (quernAt s q).switching = some n → gives (.spareSwitchDone n) s fun s' =>
      (quernAt s' q).server = some n ∧ (quernAt s' q).switching = none ∧ s'.taps = s.taps) ∧
    (∀ i, (quernAt s q).switching.isSome = true → exec (.waitingSegmentAccepted q i) s = .next s) ∧
    ∀ i, (quernAt s q).switching = none → exec (.waitingSegmentAccepted q i) s =
      .next (forAll (((quernAt s q).waiting.filter fun w => w.1 == i).map Prod.snd)
        (modQuern s q fun x => { x with waiting := x.waiting.filter fun w => w.1 != i }) fun s m => doUpward q i m .none s)

/-- A SPAN_REPORT that names what the instance itself reports to its parent on that port changes nothing, and one that agrees with an
input lets that input take messages again (log entry 46). A child's values are kept, the latest for each port and plane, before a
preparation under way is concluded with them; the exchange is a command, since the spec gives it no layout (log entries 41, 106). A
child that stays silent for 1000 ms from PREPARE refuses the epoch with reason 5; before that, or outside PREPARING, nothing changes. A
draining plane becomes drained exactly when the conditions of R421 hold (log entry 45). -/
def Obligations.SpanReportsAndDrains : Prop :=
  ∀ (s : State),
    (∀ (p : PortRef) (m : Message) o r, (match p with | .lattice n => n < s.params.latticePorts | .adit a => a < s.params.aditPorts) →
      m.body = .report o r →
      (inputsFedBy s p m.plane = [] → parentPort s m.plane = some p → (m.span, o, r) = reportOf s (cfg s) m.plane →
        exec (.spanReport p m) s = .next s) ∧
      (∀ c ∈ inputsFedBy s p m.plane, (c.2.span, c.2.occ, c.2.rank) = (m.span, o, r) →
        gives (.spanReport p m) s fun s' =>
          c.2.input ∉ (quernAt s' c.1).refusedInputs ∧ { s' with querns := s.querns } = s)) ∧
    (∀ (p : PortRef) (i : ExchangeInfo), (match p with | .lattice n => n < s.params.latticePorts | .adit a => a < s.params.aditPorts) →
      ∃ t, exec (.epochExchange p i) s = .next (concludePrepare t) ∧ heardFrom t p i.plane = some i ∧ { t with setup := s.setup } = s ∧
        (odGet s 0x2200 0x03 ≠ 1 → concludePrepare t = t)) ∧
    (∀ e, odGet s 0x2200 0x03 ≠ 1 ∨ e < 1000 → exec (.prepareChildTimeout e) s = .next s) ∧
    (∀ e, odGet s 0x2200 0x03 = 1 → 1000 ≤ e → gives (.prepareChildTimeout e) s fun s' =>
      odGet s' 0x2200 0x03 = 3 ∧ odGet s' 0x2200 0x04 = 5 ∧ s'.inForce = s.inForce ∧
      onlyObjects s s' [(0x2200, 0x03), (0x2200, 0x04), (0x2200, 0x05)]) ∧
    ∀ k, k < s.params.planes →
      (planeState s k = 2 → drainedNow s k = true → exec (.planeDrained k) s = .next (odSet s (0x2210 + k) 0x09 3)) ∧
      (planeState s k ≠ 2 ∨ drainedNow s k = false → exec (.planeDrained k) s = .next s)

/-- EXACT: lanes combine to the exact integer sums and sidebands to their OR in any canonical tree, and the output's check digest is
the word-by-word sum of the inputs' digests. In every discipline the order in which the inputs are listed does not matter. Rounding
drops bits under RZ, takes the nearest multiple, ties to even, under RNE, and adds one under SR exactly where the top 32 discarded bits
and the mixer value pass 2^32. A contribution below 2^A quantises to its rounded magnitude, at most 2^G - 1, with its sign; a zero,
overshot or non-finite one to 0. A result that fits its floating-point type reads back as the rounded value with its sign, and a larger
one is the infinity or largest finite value, with OUTPUT_RANGE; a NaN or infinity reads back as itself, and an infinity as NaN where
the type has none. ORDERED: a representable sum is never changed, x - x is +0, -0 - 0 is -0, and infinities follow IEEE 754. SCALED: a
block whose scale rises at most once fits at the scale it takes, which never passes the limit, and a transport value is exactly the
rounded element, at most L, times 2^X. -/
def Obligations.CombiningArithmetic : Prop :=
  (∀ (d : Desc) (key : MixKey) (attempt : Nat) (out : Span) (ins : List (Nat × Payload)) (n first : Nat),
    d.exact = true → d.isArg = false → ins ≠ [] → 0 < n → (ins.map Prod.fst).Nodup →
    (∀ x ∈ ins, spanHas out x.1 = true ∧ x.2.first = first ∧ x.2.lanes.length = n) →
    ∃ o, combineAll d key attempt out ins = o ∧ o.first = first ∧
      o.lanes.map (·.val) = (List.range n).map (fun i => (ins.map fun x => (x.2.lanes.map (·.val)).getD i 0).sum) ∧
      (∀ i, i < n → ∃ l, o.lanes[i]? = some l ∧
        l.side.nan = ins.any (fun x => ((x.2.lanes.map Lane.side).getD i {}).nan) ∧
        l.side.pinf = ins.any (fun x => ((x.2.lanes.map Lane.side).getD i {}).pinf) ∧
        l.side.ninf = ins.any (fun x => ((x.2.lanes.map Lane.side).getD i {}).ninf)) ∧
      laneDigest d first o.lanes = (ins.map fun x => laneDigest d first x.2.lanes).foldl eddyAdd eddyZero) ∧
  (∀ (d : Desc) (key : MixKey) (attempt : Nat) (out : Span) (ins ins' : List (Nat × Payload)),
    ins.Perm ins' → (ins.map Prod.fst).Nodup → (∀ x ∈ ins, spanHas out x.1 = true) →
    combineAll d key attempt out ins = combineAll d key attempt out ins') ∧
  (∀ m n r : Nat, r < 2 ^ 32 →
    roundShift .rz m n = m / 2 ^ n ∧
    roundShift (.sr r) m n = m / 2 ^ n + (if 2 ^ 32 ≤ m % 2 ^ n * 2 ^ 32 / 2 ^ n + r then 1 else 0) ∧
    2 * m ≤ 2 * (roundShift .rne m n * 2 ^ n) + 2 ^ n ∧ 2 * (roundShift .rne m n * 2 ^ n) ≤ 2 * m + 2 ^ n ∧
    (2 * m = 2 * (roundShift .rne m n * 2 ^ n) + 2 ^ n ∨ 2 * (roundShift .rne m n * 2 ^ n) = 2 * m + 2 ^ n → roundShift .rne m n % 2 = 0)) ∧
  (∀ (wide : Bool) (a : Int) (rnd : Rnd) (x : Dy),
    (x.m ≠ 0 → x.atLeast a = false →
      (quantise wide a rnd (.fin x)).natAbs = min (2 ^ gridBits wide - 1) (roundShift rnd x.m (a - (gridBits wide : Int) - x.e)) ∧
      (x.neg = true → quantise wide a rnd (.fin x) ≤ 0) ∧ (x.neg = false → 0 ≤ quantise wide a rnd (.fin x))) ∧
    (x.m = 0 ∨ x.atLeast a = true → quantise wide a rnd (.fin x) = 0) ∧
    quantise wide a rnd .nan = 0 ∧ quantise wide a rnd .pinf = 0 ∧ quantise wide a rnd .ninf = 0) ∧
  (∀ f ∈ [0, 1, 2, 3, 4, 15], ∀ (rnd : Rnd) (keepZero : Bool),
    (∀ x : Dy, x.m ≠ 0 →
      (aboveLargest (fmtTy f) (roundMag (fmtTy f) rnd x).1 (roundMag (fmtTy f) rnd x).2 = false →
        ∃ v, decodeFloat (fmtTy f) (convertElem f rnd keepZero {} (.fin x)).1 = .fin v ∧ v.neg = x.neg ∧
          magLt v.m v.e (roundMag (fmtTy f) rnd x).1 (roundMag (fmtTy f) rnd x).2 = false ∧
          magLt (roundMag (fmtTy f) rnd x).1 (roundMag (fmtTy f) rnd x).2 v.m v.e = false ∧
          (convertElem f rnd keepZero {} (.fin x)).2 = false) ∧
      (aboveLargest (fmtTy f) (roundMag (fmtTy f) rnd x).1 (roundMag (fmtTy f) rnd x).2 = true →
        convertElem f rnd keepZero {} (.fin x) =
          (if (fmtTy f).hasInf = true ∧ rnd ≠ .rz then infOut f x.neg else largestPattern (fmtTy f) x.neg, true))) ∧
    ∀ (side : Sideband) (lane v : Val), sideVal side lane = v → v = .nan ∨ v = .pinf ∨ v = .ninf →
      decodeFloat (fmtTy f) (convertElem f rnd keepZero side lane).1 = (if (fmtTy f).hasInf then v else .nan)) ∧
  (∀ (rnd : Rnd) (a : Nat) (x : Dy), (∀ r, rnd = .sr r → r < 2 ^ 32) → ofF32 a = .fin x →
    (a < 2 ^ 31 → addF32 rnd a (a + 2 ^ 31) = 0 ∧ addF32 rnd (a + 2 ^ 31) a = 0) ∧
    addF32 rnd 0x80000000 0x80000000 = 0x80000000 ∧ addF32 rnd 0x7F800000 a = 0x7F800000 ∧ addF32 rnd 0xFF800000 a = 0xFF800000 ∧
    addF32 rnd 0x7F800000 0xFF800000 = 0x7FC00000 ∧
    ∀ (b c : Nat) (y z : Dy), ofF32 b = .fin y → ofF32 c = .fin z → c < 2 ^ 32 → z.m ≠ 0 → z.neg = (addDy x y).neg →
      magLt z.m z.e (addDy x y).m (addDy x y).e = false → magLt (addDy x y).m (addDy x y).e z.m z.e = false → addF32 rnd a b = c) ∧
  ∀ f ∈ [5, 6, 7, 8, 9, 10], ∀ x : Int,
    (∀ (ds : List (Dy × Rnd)) (ps : List Nat) (y : Int) (bad : Bool), growBlock (fmtTy f) x ds = (ps, y, bad) →
      y ≤ scaleLimit (fmtTy f) ∧ (bad = false → blockOver (fmtTy f) y ds = false ∧ x ≤ y ∧ ps = quantBlock (fmtTy f) y ds ∧
        (blockOver (fmtTy f) x ds = false → y = x))) ∧
    (-127 ≤ x → x ≤ scaleLimit (fmtTy f) → ∀ (rnd : Rnd) (d : Dy) (n : Nat) (q : Int), transportMag (fmtTy f) rnd x d = (n, q) →
      ∃ v, ofF32 (transportF32 (fmtTy f) rnd x d) = .fin v ∧ (v.m = 0 → v.neg = false) ∧ (v.m ≠ 0 → v.neg = d.neg) ∧
        (aboveLargest (fmtTy f) n q = false → magLt v.m v.e n (q + x) = false ∧ magLt n (q + x) v.m v.e = false) ∧
        (aboveLargest (fmtTy f) n q = true → magLt v.m v.e (largestM (fmtTy f)) (largestE (fmtTy f) + x) = false ∧
          magLt (largestM (fmtTy f)) (largestE (fmtTy f) + x) v.m v.e = false))

/-- On U32 lane patterns AND, OR and XOR give the bitwise result and MAXEXP the larger of the two INT32 exponents; in each of the four
functions the lane's value does not depend on the order of two lanes nor on the grouping of three. -/
def Obligations.BitwiseAndMaxexpLanes : Prop :=
  ∀ (d : Desc) (a b c : BitVec 32),
    (d.func = 8 → (freeLane d { val := (a.toNat : Int) } { val := (b.toNat : Int) }).val = ((a &&& b).toNat : Int)) ∧
    (d.func = 9 → (freeLane d { val := (a.toNat : Int) } { val := (b.toNat : Int) }).val = ((a ||| b).toNat : Int)) ∧
    (d.func = 10 → (freeLane d { val := (a.toNat : Int) } { val := (b.toNat : Int) }).val = ((a ^^^ b).toNat : Int)) ∧
    (d.func = 11 → (freeLane d { val := (a.toNat : Int) } { val := (b.toNat : Int) }).val =
      ((if a.toInt < b.toInt then b else a).toNat : Int)) ∧
    (d.func = 8 ∨ d.func = 9 ∨ d.func = 10 ∨ d.func = 11 →
      freeLane d { val := (a.toNat : Int) } { val := (b.toNat : Int) } = freeLane d { val := (b.toNat : Int) } { val := (a.toNat : Int) } ∧
      freeLane d (freeLane d { val := (a.toNat : Int) } { val := (b.toNat : Int) }) { val := (c.toNat : Int) } =
        freeLane d { val := (a.toNat : Int) } (freeLane d { val := (b.toNat : Int) } { val := (c.toNat : Int) }))

/-- A tick adds 10 ns, scaled by the rate in units of 10^-12, to the counter and its fraction, modulo 2^96; holdover counts 10 ns; what
an interpolated read has shown of the tick is past (log entry 28); an armed launch fires as the count reaches LAUNCH_AT, and with none
armed nothing else changes. WS_MBIST_AON stops it. When SYNC_INTERVAL has passed an instance with a time parent puts one request with
the next sequence number on that port, if it is up, and expects its response; the time root sends none, and in Dormant none goes when
one has gone in this window of eight intervals (log entry 30). A request on a port other than the time parent's that is up is answered
with the stamps; on any other port it changes nothing. A response that was expected from a parent in FREE, LOCKED or HOLDOVER gives one
sample, and brings FREE and LOST to ACQUIRE; one that was not expected changes nothing. -/
def Obligations.TicksAndTimeMessages : Prop :=
  ∀ s : State,
    (s.testAcc.mode = false ∨ s.testAcc.wir ≠ 5 → gives .gtcTick s fun t =>
      t.gtc.count.toNat * 2 ^ 32 + t.gtc.frac.toNat =
        (((s.gtc.count.toNat * 2 ^ 32 + s.gtc.frac.toNat : Nat) : Int) + (10 * 2 ^ 32 + (10 * 2 ^ 32 * s.gtc.rate).tdiv (10 ^ 12))) % 2 ^ 96 ∧
      t.gtc.holdNs = s.gtc.holdNs + (if s.gtc.state = .holdover then 10 else 0) ∧ t.gtc.sub = 0 ∧
      { t.gtc with count := s.gtc.count, frac := s.gtc.frac, holdNs := s.gtc.holdNs, sub := s.gtc.sub } = s.gtc ∧ t.uptime = s.uptime + 10 ∧
      (s.launch ≠ .armed → { t with gtc := s.gtc, uptime := s.uptime } = s) ∧
      (s.launch = .armed → t.launch = if odGet s 0x6050 0x01 ≤ t.gtc.count.toNat then .fired else .armed)) ∧
    (s.testAcc.mode = true → s.testAcc.wir = 5 → exec .gtcTick s = .next s) ∧
    (∀ e, e < odGet s 0x6040 0x08 → exec (.timeReqSend e) s = .next s) ∧
    (∀ e, odGet s 0x6040 0x08 ≤ e → (timeRole s).2 = none →
      exec (.timeReqSend e) s = .next { s with gtc := { s.gtc with exchanges := s.gtc.exchanges + 1 } }) ∧
    (∀ e p, odGet s 0x6040 0x08 ≤ e → timeRole s = (false, some p) → s.power.state = .dormant → s.gtc.exchanges ≠ 0 →
      exec (.timeReqSend e) s = .next { s with gtc := { s.gtc with exchanges := s.gtc.exchanges + 1 } }) ∧
    (∀ e p, odGet s 0x6040 0x08 ≤ e → timeRole s = (false, some p) → (s.power.state ≠ .dormant ∨ s.gtc.exchanges = 0) → gives (.timeReqSend e) s fun t =>
      t.gtc.nextReq = s.gtc.nextReq + 1 ∧ s.gtc.nextReq ∈ t.gtc.outstanding ∧ t.gtc.exchanges = s.gtc.exchanges + 1 ∧
      t.gtc.count = s.gtc.count ∧ t.od = s.od ∧
      (portUp s p = false → { t with gtc := s.gtc } = s) ∧
      (portUp s p = true → ∃ u, { u with gtc := s.gtc } = s ∧
        t = queueFlits u p [{ vc := 4, time := some { kind := 1, state := s.gtc.state.no, seq := s.gtc.nextReq, tTx := 0 } }])) ∧
    (∀ p (m : TimeMsg), (match p with | .lattice n => n < s.params.latticePorts | .adit a => a < s.params.aditPorts) →
      ((timeRole s).2 = some p ∨ portUp s p = false → exec (.timeReq p m) s = .next s) ∧
      ((timeRole s).2 ≠ some p → portUp s p = true → ∃ r : TimeMsg, r.kind = 2 ∧ r.seq = m.seq ∧ r.state = s.gtc.state.no ∧
        r.tRx = arrivalAt s p / 65536 ∧ r.tRxFrac = arrivalAt s p % 65536 ∧ r.tEcho = m.tTx ∧ r.tEchoFrac = m.tTxFrac ∧
        r.bound = u32 (errorBound s) ∧ exec (.timeReq p m) s = .next (queueFlits s p [{ vc := 4, time := some r }])) ∧
      ((timeRole s).2 ≠ some p ∨ s.gtc.outstanding.contains m.seq = false → exec (.timeResp p m) s = .next s) ∧
      ((timeRole s).2 = some p → s.gtc.outstanding.contains m.seq = true → gives (.timeResp p m) s fun t =>
        m.seq ∉ t.gtc.outstanding ∧ { t with gtc := s.gtc } = s ∧
        (m.state = 0 ∨ m.state = 2 ∨ m.state = 3 →
          t.gtc.samples = s.gtc.samples ++ [sampleOf m (asymOf s p) (arrivalAt s p)] ∧
          t.gtc.state = (match s.gtc.state with | .free => .acquire | .lost => .acquire | x => x)) ∧
        (m.state ≠ 0 → m.state ≠ 2 → m.state ≠ 3 → t.gtc.samples = s.gtc.samples ∧ t.gtc.state = s.gtc.state)))

/-- A window of fewer than eight intervals is not over and changes nothing (log entry 30). Over, it forgets its samples; in LOCKED with
a sample within the step limit and no hold the servo corrects: offset and delay of the best sample are shown, the integral grows by a
64th, and the rate follows within 500 ppm of the window; a far sample in LOCKED leads to LOST, SERVO_HOLD or not (log entry 31). From
LOCKED and ACQUIRE the second window without one, or SERVO_HOLD at a window's end, leads to HOLDOVER, which keeps the rate (log entries
29, 110). HOLDOVER ends in LOST at its limit, which aborts an armed launch. A launch fires at LAUNCH_AT in ARMED alone, with the time
and bound shown; 20 us before, the instance wakes and the common clock starts. -/
def Obligations.ServoAndLaunch : Prop :=
  ∀ s : State,
    (s.gtc.exchanges < 8 → exec .servoWindow s = .next s) ∧
    (8 ≤ s.gtc.exchanges → (timeRole s).1 = false → odGet s 0x6040 0x06 = s.gtc.parent → s.gtc.state = .locked →
      (∀ x, bestSample s.gtc.samples = some x →
        ((x.theta.natAbs : Int) ≤ odGet s 0x6040 0x0A * 1000 → odGet s 0x6040 0x0D ≠ 1 → gives .servoWindow s fun t =>
          t.gtc.samples = [] ∧ t.gtc.exchanges = 0 ∧ t.gtc.state = .locked ∧ odGet t 0x6040 0x03 = patternOf x.theta 64 ∧
          odGet t 0x6040 0x04 = patternOf x.mean 64 ∧ t.gtc.integ = s.gtc.integ + x.theta.tdiv 64 ∧
          (0 < odGet s 0x6040 0x08 → -500000000 ≤ t.gtc.rate ∧ t.gtc.rate ≤ 500000000) ∧
          t.gtc.count = s.gtc.count ∧ t.launch = s.launch) ∧
        ((odGet s 0x6040 0x0A * 1000 : Int) < x.theta.natAbs → gives .servoWindow s fun t =>
          t.gtc.state = .lost ∧ (s.launch = .armed → t.launch = .aborted) ∧ (s.launch ≠ .armed → t.launch = s.launch)))) ∧
    (8 ≤ s.gtc.exchanges → (timeRole s).1 = false → odGet s 0x6040 0x06 = s.gtc.parent → s.gtc.state = .locked ∨ s.gtc.state = .acquire →
      (s.gtc.samples = [] → s.gtc.badWindows = 1 ∨ odGet s 0x6040 0x0D = 1 → gives .servoWindow s fun t =>
        t.gtc.state = .holdover ∧ t.gtc.holdNs = 0 ∧ t.gtc.rate = s.gtc.rate ∧ { t with gtc := s.gtc } = s) ∧
      (∀ x, bestSample s.gtc.samples = some x → (x.theta.natAbs : Int) ≤ odGet s 0x6040 0x0A * 1000 → odGet s 0x6040 0x0D = 1 →
        gives .servoWindow s fun t => t.gtc.state = .holdover ∧ t.gtc.holdNs = 0 ∧ t.gtc.rate = s.gtc.rate ∧ t.launch = s.launch)) ∧
    (∀ e, s.gtc.state = .holdover → odGet s 0x6040 0x0D = 0 → odGet s 0x6040 0x0B ≤ e → gives (.holdoverMaxExpiry e) s fun t =>
      t.gtc.state = .lost ∧ (s.launch = .armed → t.launch = .aborted) ∧ (s.launch ≠ .armed → t.launch = s.launch)) ∧
    (∀ e, s.gtc.state ≠ .holdover ∨ odGet s 0x6040 0x0D ≠ 0 ∨ e < odGet s 0x6040 0x0B → exec (.holdoverMaxExpiry e) s = .next s) ∧
    (s.launch = .armed → odGet s 0x6050 0x01 ≤ (gtcNow s).toNat → gives .launchFire s fun t =>
      t.launch = .fired ∧ odGet t 0x6050 0x04 = (gtcNow s).toNat ∧ odGet t 0x6050 0x07 = errorBound s ∧
      { t with launch := s.launch, od := s.od } = s ∧ onlyObjects s t [(0x6050, 0x04), (0x6050, 0x07)]) ∧
    (s.launch ≠ .armed ∨ (gtcNow s).toNat < odGet s 0x6050 0x01 → exec .launchFire s = .next s) ∧
    (s.launch = .armed → odGet s 0x6050 0x01 ≤ (gtcNow s).toNat + 20000 → exec .launchLead s = .next (startCommon (wakeTrigger s))) ∧
    (s.launch ≠ .armed ∨ (gtcNow s).toNat + 20000 < odGet s 0x6050 0x01 → exec .launchLead s = .next s)

/-- A DISABLED or TEST port takes no signal; on an ABSENT or DOWN one a signal begins a full training, counted, and elsewhere it is
noted. A lost lane has no signal in any state. ACTIVE: loss of a lane in use, or of all lanes while planes use the port, begins a fast
retrain, counted; of all lanes with no plane, ABSENT; of others, nothing more. RECOVERING: a lane in use lost in no training or a fast
retrain, or all lanes, goes on to the next kind of training, and all lanes lost in a full one bring DOWN with cause 5. TRAINING that
loses all lanes goes to ABSENT, or to DOWN where planes were closed on it (log entry 34), and MISCONNECTED to ABSENT. Every other loss
leaves the state. A burst goes out 100 ms apart in ABSENT and DOWN. Bytes that are no training block change nothing; one that begins a
training on an ABSENT port counts it. A training that has not done its phases does not complete (log entry 22); a fresh one that has,
with enough lanes in each direction, makes the port ACTIVE with the widths shown, and one with too few brings it DOWN with cause 2. An
idle port of a Dormant instance goes QUIET and refreshes each 100 us, as does an ACTIVE one with nothing to send that has heard nothing
since the last (log entry 26). -/
def Obligations.LatticeLanesAndTraining : Prop :=
  ∀ (s : State) (p lane : Nat), Shaped s → p < s.params.latticePorts → lane < 8 → (latAt s p).lanes.length = 8 →
    ((latAt s p).state = .disabled ∨ (latAt s p).state = .test → exec (.laneSignalDetect p lane) s = .next s) ∧
    ((latAt s p).state = .absent ∨ (latAt s p).state = .down → gives (.laneSignalDetect p lane) s fun t =>
      (latAt t p).state = .training ∧ (latAt t p).fresh = true ∧ ((latAt t p).lanes.getD lane {}).signal = true ∧
      odGet t (0x7040 + p) 0x14 = min (odGet s (0x7040 + p) 0x14 + 1) 0xFFFFFFFF ∧ otherLattice s t p) ∧
    ((latAt s p).state = .active ∨ (latAt s p).state = .training ∨ (latAt s p).state = .recovering ∨ (latAt s p).state = .misconnected ∨
        (latAt s p).state = .quiet → gives (.laneSignalDetect p lane) s fun t =>
      ((latAt t p).lanes.getD lane {}).signal = true ∧ (latAt t p).state = (latAt s p).state ∧ otherLattice s t p ∧
      { t with lattice := s.lattice } = s) ∧
    (∀ l : BitVec 8,
      (gives (.laneSignalLoss p l) s fun t => ∀ i, i < 8 → l.getLsbD i = true → ((latAt t p).lanes.getD i {}).signal = false) ∧
      ((∀ i, i < 8 → l.getLsbD i = true ∨ ((latAt s p).lanes.getD i {}).signal = false) →
        ((latAt s p).state = .training → (latAt s p).closedAt ≠ [] → gives (.laneSignalLoss p l) s fun t =>
          (latAt t p).state = .down ∧ otherLattice s t p ∧ { t with lattice := s.lattice } = s) ∧
        (((latAt s p).state = .training ∧ (latAt s p).closedAt = []) ∨ (latAt s p).state = .misconnected ∨
            ((latAt s p).state = .active ∧ portPlanes s (.lattice p) = []) → gives (.laneSignalLoss p l) s fun t =>
          (latAt t p).state = .absent ∧ otherLattice s t p ∧ { t with lattice := s.lattice } = s) ∧
        ((latAt s p).state = .active → portPlanes s (.lattice p) ≠ [] → gives (.laneSignalLoss p l) s fun t => fastRetrain s t p) ∧
        ((latAt s p).state = .recovering → (latAt s p).train < 2 → gives (.laneSignalLoss p l) s fun t =>
          (latAt t p).state = .recovering ∧ (latAt t p).train = (latAt s p).train + 1 ∧ (latAt t p).retry = (latAt s p).retry) ∧
        ((latAt s p).state = .recovering → 2 ≤ (latAt s p).train → gives (.laneSignalLoss p l) s fun t =>
          (latAt t p).state = .down ∧ latOd t p 0x13 = 5)) ∧
      ((∃ i, i < 8 ∧ l.getLsbD i = false ∧ ((latAt s p).lanes.getD i {}).signal = true) →
        ((latAt s p).state = .active → bitsOf (latOd s p 0x08) 15 8 &&& l.toNat ≠ 0 → gives (.laneSignalLoss p l) s fun t => fastRetrain s t p) ∧
        ((latAt s p).state = .recovering → (latAt s p).train < 2 → bitsOf (latOd s p 0x08) 15 8 &&& l.toNat ≠ 0 →
          gives (.laneSignalLoss p l) s fun t => (latAt t p).state = .recovering ∧ (latAt t p).train = (latAt s p).train + 1 ∧
            (latAt t p).retry = (latAt s p).retry) ∧
        (bitsOf (latOd s p 0x08) 15 8 &&& l.toNat = 0 ∨ ((latAt s p).state = .recovering ∧ 2 ≤ (latAt s p).train) ∨
            (latAt s p).state = .training ∨ (latAt s p).state = .misconnected → gives (.laneSignalLoss p l) s fun t =>
          (latAt t p).state = (latAt s p).state ∧ otherLattice s t p ∧ { t with lattice := s.lattice } = s)) ∧
      ((latAt s p).state = .quiet ∨ (latAt s p).state = .disabled ∨ (latAt s p).state = .absent ∨ (latAt s p).state = .down ∨
          (latAt s p).state = .test → gives (.laneSignalLoss p l) s fun t =>
        (latAt t p).state = (latAt s p).state ∧ otherLattice s t p ∧ { t with lattice := s.lattice } = s)) ∧
    (∀ e, (e < 100 → exec (.absentBurst p e) s = .next s) ∧
      (100 ≤ e → (latAt s p).state = .absent → exec (.absentBurst p e) s = .next (latCnt (emit s (.trainingBurst p 2)) p 0x15)) ∧
      (100 ≤ e → (latAt s p).state = .down → exec (.absentBurst p e) s = .next (emit s (.trainingBurst p 2)))) ∧
    (∀ m bs, trainOf bs = none ∨ (latAt s p).state = .disabled ∨ (latAt s p).state = .test → exec (.trainingBlock p lane m bs) s = .next s) ∧
    (∀ m bs b, trainOf bs = some b → (latAt s p).state = .absent → gives (.trainingBlock p lane m bs) s fun t =>
      odGet t (0x7040 + p) 0x14 = min (odGet s (0x7040 + p) 0x14 + 1) 0xFFFFFFFF ∧ otherLattice s t p ∧
      ((latAt t p).state = .training ∨ (latAt t p).state = .misconnected)) ∧
    ((latAt s p).phase < 3 ∨ ((latAt s p).state ≠ .training ∧ (latAt s p).state ≠ .recovering) → exec (.trainingComplete p) s = .next s) ∧
    ((latAt s p).state = .training → 3 ≤ (latAt s p).phase →
      (latOd s p 0x0B ≤ min (trainFind s p).rxWidth (trainFind s p).txWidth → gives (.trainingComplete p) s fun t =>
        (latAt t p).state = .active ∧ (latAt t p).lcfDue = true ∧ otherLattice s t p ∧
        latOd t p 0x07 = (trainFind s p).txWidth + (trainFind s p).rxWidth * 256 ∧ latOd t p 0x09 = faultWord (trainFind s p).fault) ∧
      (min (trainFind s p).rxWidth (trainFind s p).txWidth < latOd s p 0x0B → gives (.trainingComplete p) s fun t =>
        (latAt t p).state = .down ∧ latOd t p 0x13 = 2)) ∧
    (latQuietOk (latAt s p) = true → s.power.state = .dormant → exec (.quietEntry p) s = .next (latState s p .quiet)) ∧
    (latQuietOk (latAt s p) = false ∨ s.power.state ≠ .dormant → exec (.quietEntry p) s = .next s) ∧
    (∀ e, (100 ≤ e → (latAt s p).state = .quiet → exec (.quietRefresh p e) s = .next (emit s (.refreshBurst p))) ∧
      (e < 100 ∨ ((latAt s p).state ≠ .quiet ∧ (latAt s p).state ≠ .active) → exec (.quietRefresh p e) s = .next s) ∧
      (100 ≤ e → (latAt s p).state = .active → ((latAt s p).heard = true ∨ idleOnly (latAt s p) = false) → (latAt s p).txIdle = false →
        exec (.quietRefresh p e) s = .next (modLat s p fun x => { x with heard := false })) ∧
      (100 ≤ e → (latAt s p).state = .active → (latAt s p).heard = false → idleOnly (latAt s p) = true →
        exec (.quietRefresh p e) s = .next (emit (modLat s p fun x => { x with txIdle := true }) (.refreshBurst p))))

/-- A port that exchanges no flits sends and takes none. An ACTIVE port with an LCF due sends it and no other flit; with nothing to
send, an IDLE flit, or none in electrical idle; the first waiting flit with a credit takes the next SEQ and a place in the retry buffer
(log entry 24). A flit that fails FEC or its CRC is counted; at a receiver that does not wait a NAK becomes due and it waits, as for a
flit ahead of the expected SEQ, and a receiver that waits already only counts. An IDLE flit changes nothing but that something was
heard; the flit of the expected SEQ is taken, the next is expected, and the wait ends; one behind it is counted as a duplicate. An LCF
takes the acknowledged flits out of the retry buffer. An LCF becomes due after 64 flit times with something to report. The replay timer
at its limit begins a replay, counted. A port RECOVERING for its limit enters DOWN with cause 1. -/
def Obligations.LatticeFlits : Prop :=
  ∀ (s : State) (p : Nat), Shaped s → p < s.params.latticePorts →
    (flitsFlow (latAt s p) = false → exec (.flitTx p) s = .next s ∧ (∀ bs f c, exec (.flitRx p bs f c) s = .next s) ∧
      (∀ i, exec (.lcf p i) s = .next s) ∧ (∀ e, exec (.lcfInterval p e) s = .next s) ∧ ∀ e, exec (.replayTimer p e) s = .next s) ∧
    ((latAt s p).state = .active → s.inject.armed = false →
      ((latAt s p).lcfDue = true → gives (.flitTx p) s fun t =>
        t.outs = s.outs ++ [.flit p (flitBytes { seq := 0, epoch := 0, vc := 7, plane := 0, first := false, last := false, len := 240 }
          (lcfBytes (lcfNow (latAt s p))))] ∧
        (latAt t p).lcfDue = false ∧ (latAt t p).retry = (latAt s p).retry ∧ (latAt t p).txq = (latAt s p).txq ∧
        (latAt t p).nextSeq = (latAt s p).nextSeq ∧ otherLattice s t p ∧ { t with lattice := s.lattice, outs := s.outs } = s) ∧
      ((latAt s p).lcfDue = false → (latAt s p).unsent = 0 → (latAt s p).txq = [] →
        ((latAt s p).txIdle = false → exec (.flitTx p) s = .next (emit s (.flit p
          (flitBytes { seq := 0, epoch := 0, vc := 6, plane := 0, first := false, last := false, len := 0 } [])))) ∧
        ((latAt s p).txIdle = true → exec (.flitTx p) s = .next s)) ∧
      (∀ f i, (latAt s p).lcfDue = false → (latAt s p).unsent = 0 → (latAt s p).retry.length < 2048 →
        ((latAt s p).txq.zipIdx.find? fun f => hasCredit s p f.1) = some (f, i) → gives (.flitTx p) s fun t =>
          (latAt t p).nextSeq = ((latAt s p).nextSeq + 1) % 2 ^ 24 ∧ (latAt t p).txq = (latAt s p).txq.eraseIdx i ∧
          (latAt t p).retry = (latAt s p).retry ++ [{ stampEpoch s f with seq := (latAt s p).nextSeq }] ∧ otherLattice s t p)) ∧
    ((latAt s p).state = .active ∨ ((latAt s p).state = .recovering ∧ (latAt s p).train = 0) → ∀ bs,
      (∀ fec, fec = true ∨ flitOf bs = none →
        ((latAt s p).rxWaiting = false → gives (.flitRx p bs fec []) s fun t => nakDue s t p ∧
          odGet t (0x7040 + p) 0x01 = min (odGet s (0x7040 + p) 0x01 + 1) 0xFFFFFFFF) ∧
        ((latAt s p).rxWaiting = true → gives (.flitRx p bs fec []) s fun t =>
          latAt t p = { latAt s p with heard := true, txIdle := false } ∧ otherLattice s t p ∧
          odGet t (0x7040 + p) 0x01 = min (odGet s (0x7040 + p) 0x01 + 1) 0xFFFFFFFF ∧
          onlyObjects s t [(0x7040 + p, 0x01), (0x7040 + p, 0x02)] ∧ { t with od := s.od, lattice := s.lattice } = s)) ∧
      (∀ h payload, flitOf bs = some (h, payload) →
        (h.vc = 6 → exec (.flitRx p bs false []) s = .next (modLat s p fun x => { x with heard := true, txIdle := false })) ∧
        (h.vc ≠ 6 → h.vc ≠ 7 → seqBehind h.seq (latAt s p).expSeq = true → h.seq ≠ (latAt s p).expSeq →
          exec (.flitRx p bs false []) s = .next (cnt (modLat s p fun x => { x with heard := true, txIdle := false }) (0x7040 + p) 0x0E)) ∧
        (h.vc ≠ 6 → h.vc ≠ 7 → seqBehind h.seq (latAt s p).expSeq = false → h.seq ≠ (latAt s p).expSeq → (latAt s p).rxWaiting = false →
          gives (.flitRx p bs false []) s fun t => nakDue s t p) ∧
        (h.vc ≠ 6 → h.vc ≠ 7 → h.seq = (latAt s p).expSeq → gives (.flitRx p bs false []) s fun t =>
          (latAt t p).expSeq = ((latAt s p).expSeq + 1) % 2 ^ 24 ∧ (latAt t p).rxWaiting = false))) ∧
    (∀ i : LcfInfo, flitsFlow (latAt s p) = true → i.nak = false → gives (.lcf p i) s fun t =>
      (latAt t p).retry = (latAt s p).retry.dropWhile (fun f => seqBehind f.seq i.ack) ∧ (latAt t p).txq = (latAt s p).txq ∧
      otherLattice s t p ∧ s.taps = t.taps) ∧
    (∀ e, 64 ≤ e → (latAt s p).lcfDirty = true → flitsFlow (latAt s p) = true → exec (.lcfInterval p e) s =
      .next (modLat s p fun x => { x with lcfDue := true })) ∧
    (∀ e, (latAt s p).state = .active → latOd s p 0x10 ≤ e → (latAt s p).retry ≠ [] → (latAt s p).noProgress < latOd s p 0x11 →
      gives (.replayTimer p e) s fun t =>
        odGet t (0x7040 + p) 0x0D = min (odGet s (0x7040 + p) 0x0D + 1) 0xFFFFFFFF ∧ (latAt t p).unsent = (latAt s p).retry.length ∧
        (latAt t p).state = .recovering ∧ (latAt t p).noProgress = (latAt s p).noProgress + 1 ∧ otherLattice s t p) ∧
    (∀ e, (latAt s p).state = .recovering → (latAt s p).recoverLimit ≤ e → gives (.linkRecoveryTimeout p e) s fun t =>
      (latAt t p).state = .down ∧ latOd t p 0x13 = 1 ∧ (latAt t p).retry = []) ∧
    (∀ e, (latAt s p).state ≠ .recovering ∨ e < (latAt s p).recoverLimit → exec (.linkRecoveryTimeout p e) s = .next s)

/-- A link that comes up brings an ABSENT port to HELLO with a session of now; one that goes down brings HELLO, DOWN and MISCONNECTED
to ABSENT and ACTIVE and QUIET to RECOVERING, counted (log entry 38). A HELLO is sent each ms in HELLO, DOWN and MISCONNECTED. A frame
that the MAC marks is counted and dropped; a HELLO from the expected peer that has seen this port makes it ACTIVE, counted, with SEQ
and ACK 0. Reports are sent where R292 and R302 say so, silence begins a recovery, and a recovery past its limit enters DOWN with cause
1. An idle port of a Dormant instance goes QUIET. -/
def Obligations.AditSessions : Prop :=
  ∀ (s : State) (a : Nat), Shaped s → a < s.params.aditPorts →
    ((aditAt s a).state = .absent → gives (.aditLinkUp a) s fun t =>
      (aditAt t a).state = .hello ∧ (aditAt t a).session = gtcNow s ∧ (aditAt t a).peerSeen = false ∧ (aditAt t a).linkUp = true ∧
      otherAdits s t a ∧ { t with adits := s.adits } = s) ∧
    (((aditAt s a).state = .hello ∨ (aditAt s a).state = .down ∨ (aditAt s a).state = .misconnected) → gives (.aditLinkDown a) s fun t =>
      (aditAt t a).state = .absent ∧ (aditAt t a).linkUp = false ∧ otherAdits s t a ∧ { t with adits := s.adits } = s) ∧
    (((aditAt s a).state = .active ∨ (aditAt s a).state = .quiet) →
      (gives (.aditLinkDown a) s fun t => (aditAt t a).state = .recovering ∧ (aditAt t a).linkUp = false ∧
        odGet t (0x7018 + a) 0x0C = min (odGet s (0x7018 + a) 0x0C + 1) 0xFFFFFFFF ∧ otherAdits s t a) ∧
      ∀ e, aditOd s a 0x14 ≤ e → gives (.silence a e) s fun t => (aditAt t a).state = .recovering ∧
        odGet t (0x7018 + a) 0x0C = min (odGet s (0x7018 + a) 0x0C + 1) 0xFFFFFFFF ∧ otherAdits s t a) ∧
    (∀ e, e < aditOd s a 0x14 → exec (.silence a e) s = .next s) ∧
    (∀ e, (e < 1 ∨ ((aditAt s a).state ≠ .hello ∧ (aditAt s a).state ≠ .down ∧ (aditAt s a).state ≠ .misconnected) →
        exec (.helloTimer a e) s = .next s) ∧
      (1 ≤ e → ((aditAt s a).state = .hello ∨ (aditAt s a).state = .down ∨ (aditAt s a).state = .misconnected) →
        exec (.helloTimer a e) s = .next (sendHello s a))) ∧
    (∀ bs, (aditAt s a).state ≠ .disabled → (aditAt s a).state ≠ .absent →
      exec (.hello a bs true) s = .next (cnt s (0x7018 + a) 0x04) ∧
      (frameOf (frameCfg s a) bs = none → exec (.hello a bs false) s = .next (cnt s (0x7018 + a) 0x05))) ∧
    (∀ bs h payload, (aditAt s a).state = .hello ∨ (aditAt s a).state = .down → frameOf (frameCfg s a) bs = some (h, payload) →
      aditHdrOk (hdrBytes (frameCfg s a) bs) h = true → h.kind = 3 → 32 ≤ payload.length →
      aditIdentOk s a (helloOf payload).node (helloOf payload).port = true → (helloOf payload).peerSeen = true →
      gives (.hello a bs false) s fun t => (aditAt t a).state = .active ∧ (aditAt t a).nextSeq = 0 ∧ (aditAt t a).ack = 0 ∧
        aditOd t a 0x05 = (helloOf payload).node ∧ aditOd t a 0x06 = (helloOf payload).port ∧
        odGet t (0x7018 + a) 0x0D = min (odGet s (0x7018 + a) 0x0D + 1) 0xFFFFFFFF ∧ otherAdits s t a) ∧
    (∀ e, ((aditAt s a).state = .active ∨ (aditAt s a).state = .recovering) →
      (((aditAt s a).dirty = true ∧ 2 ≤ e) ∨ aditOd s a 0x12 ≤ e → exec (.keepalive a e) s = .next (sendCtrl s a)) ∧
      (((aditAt s a).dirty = false ∨ e < 2) → e < aditOd s a 0x12 → exec (.keepalive a e) s = .next s)) ∧
    (∀ e, ((aditAt s a).state = .quiet → aditOd s a 0x13 ≤ e → exec (.keepaliveDormant a e) s = .next (sendCtrl s a)) ∧
      ((aditAt s a).state ≠ .quiet ∨ e < aditOd s a 0x13 → exec (.keepaliveDormant a e) s = .next s)) ∧
    (∀ e, (aditAt s a).state = .recovering → (aditAt s a).recoverLimit ≤ e → gives (.aditRecoveryTimeout a e) s fun t =>
      (aditAt t a).state = (if (aditAt s a).linkUp then .down else .absent) ∧ aditOd t a 0x18 = 1 ∧ (aditAt t a).ring = []) ∧
    (∀ e, (aditAt s a).state ≠ .recovering ∨ e < (aditAt s a).recoverLimit → exec (.aditRecoveryTimeout a e) s = .next s) ∧
    (aditQuietOk (aditAt s a) = true → s.power.state = .dormant → exec (.aditQuietEntry a) s = .next (aditState s a .quiet)) ∧
    (aditQuietOk (aditAt s a) = false ∨ s.power.state ≠ .dormant → exec (.aditQuietEntry a) s = .next s)

/-- A CTRL frame on an ACTIVE port is counted, takes the frames it acknowledges out of the ring and the peer's room. A DATA frame of
well-formed flits joins the landing, and ACK advances to the lowest SEQ that is not held; one before ACK or already held is counted as
a duplicate; one at or beyond ACK + 2048, or with the landing full, is counted as dropped and marked for the report; neither changes
ACK or the landing. A frame with a malformed header or flit is counted and discarded whole (log entry 38), one of another peer is
counted and dropped. FRAME_HOLD closes the stream's frame, the resend timer marks the oldest frame for a resend. A ready MAC with
nothing to send sends a due report; a frame it takes from a stream keeps a place in the ring under the next SEQ (log entry 107).
Delivering a stream with no frame below ACK, or whose first flit has to wait, changes no landing; a service frame, or a frame of one
flit that is accepted, leaves it. -/
def Obligations.AditFrames : Prop :=
  ∀ (s : State) (a : Nat), Shaped s → a < s.params.aditPorts →
    ((aditAt s a).state = .disabled ∨ (aditAt s a).state = .absent →
      (∀ bs e, exec (.data a bs e) s = .next s ∧ exec (.ctrl a bs e) s = .next s) ∧ exec (.aditFrameTx a) s = .next s) ∧
    ((aditAt s a).state = .active → ∀ bs,
      exec (.data a bs true) s = .next (cnt s (0x7018 + a) 0x04) ∧
      (frameOf (frameCfg s a) bs = none → exec (.ctrl a bs false) s = .next (cnt s (0x7018 + a) 0x05)) ∧
      ∀ h payload, frameOf (frameCfg s a) bs = some (h, payload) →
        (aditHdrOk (hdrBytes (frameCfg s a) bs) h = false → exec (.data a bs false) s = .next (cnt s (0x7018 + a) 0x09)) ∧
       (aditHdrOk (hdrBytes (frameCfg s a) bs) h = true →
        (h.kind = 2 → gives (.ctrl a bs false) s fun t =>
          odGet t (0x7018 + a) 0x02 = min (odGet s (0x7018 + a) 0x02 + 1) 0xFFFFFFFF ∧ (aditAt t a).peerFree = h.landingFree ∧
          (aditAt t a).ring = (aditAt s a).ring.drop ((aditAt s a).ring.takeWhile fun f => aditBefore f.seq h.ack).length ∧
          (aditAt t a).landing = (aditAt s a).landing ∧ otherAdits s t a) ∧
        (h.kind = 1 → dataFlits h payload = none → exec (.data a bs false) s = .next (cnt s (0x7018 + a) 0x04)) ∧
        (∀ fs, h.kind = 1 → dataFlits h payload = some fs →
          (aditBefore h.seq (aditAt s a).ack = true ∨ (∃ g ∈ (aditAt s a).landing, g.seq = h.seq) → gives (.data a bs false) s fun t =>
            odGet t (0x7018 + a) 0x06 = min (odGet s (0x7018 + a) 0x06 + 1) 0xFFFFFFFF ∧ (aditAt t a).ack = (aditAt s a).ack ∧
            (aditAt t a).landing = (aditAt s a).landing ∧ otherAdits s t a) ∧
          (aditBefore h.seq (aditAt s a).ack = false → (∀ g ∈ (aditAt s a).landing, g.seq ≠ h.seq) →
            (2048 ≤ aditDist (aditAt s a).ack h.seq ∨ 2048 ≤ (aditAt s a).landing.length → gives (.data a bs false) s fun t =>
              odGet t (0x7018 + a) 0x07 = min (odGet s (0x7018 + a) 0x07 + 1) 0xFFFFFFFF ∧ (aditAt t a).ack = (aditAt s a).ack ∧
              (aditAt t a).landing = (aditAt s a).landing ∧ (aditAt t a).dirty = true ∧ (aditAt t a).dropMark.isSome = true ∧
              otherAdits s t a) ∧
            (aditDist (aditAt s a).ack h.seq < 2048 → (aditAt s a).landing.length < 2048 → gives (.data a bs false) s fun t =>
              (∃ f ∈ (aditAt t a).landing, f.seq = h.seq ∧ f.flits = fs ∧ f.plane = h.plane ∧ (aditAt t a).landing.erase f = (aditAt s a).landing) ∧
              (∃ n, (aditAt t a).ack = seqFrom (aditAt s a).ack n ∧
                (∀ i, i < n → ∃ g ∈ (aditAt t a).landing, g.seq = seqFrom (aditAt s a).ack i) ∧
                ∀ g ∈ (aditAt t a).landing, g.seq ≠ (aditAt t a).ack) ∧
              (aditAt t a).dirty = true ∧ otherAdits s t a))))) ∧
    (∀ k e, (e < aditOd s a 0x15 → exec (.frameHoldExpiry a k e) s = .next s) ∧
      (aditOd s a 0x15 ≤ e → gives (.frameHoldExpiry a k e) s fun t => k ∈ (aditAt t a).closedFrames ∧ otherAdits s t a ∧
        { t with adits := s.adits } = s)) ∧
    (∀ f r e, (aditAt s a).ring = f :: r → aditLive (aditAt s a) = true → f.seq ∉ (aditAt s a).resend →
      (aditOd s a 0x10 ≤ e → exec (.resendTimer a e) s = .next (modAdit s a fun x => { x with resend := f.seq :: x.resend })) ∧
      (e < aditOd s a 0x10 → exec (.resendTimer a e) s = .next s)) ∧
    ((aditAt s a).state = .active → (aditAt s a).linkUp = true → (aditAt s a).resend = [] →
      (firstFrame s a (streamOrder s a) = none → (aditAt s a).ctrlDue = true → exec (.aditFrameTx a) s = .next (sendCtrl s a)) ∧
      (firstFrame s a (streamOrder s a) = none → (aditAt s a).ctrlDue = false → exec (.aditFrameTx a) s = .next s) ∧
      (∀ k fs, firstFrame s a (streamOrder s a) = some (k, fs) →
        (mayRetain s a fs = false → exec (.aditFrameTx a) s = .next (sendCtrl (cnt s (0x7018 + a) 0x08) a)) ∧
        (mayRetain s a fs = true → gives (.aditFrameTx a) s fun t => (aditAt t a).nextSeq = ((aditAt s a).nextSeq + 1) % 2 ^ 48 ∧
          (∃ f, (aditAt t a).ring = (aditAt s a).ring ++ [f] ∧ f.seq = (aditAt s a).nextSeq ∧ f.flits = fs.map (stampEpoch s) ∧ f.sentAt = gtcNow s) ∧
          otherAdits s t a))) ∧
    (∀ k, (∀ f ∈ (aditAt s a).landing, streamOf f = k → aditBefore f.seq (aditAt s a).ack = false) →
      gives (.landingDeliver a k) s fun t => (aditAt t a).landing = (aditAt s a).landing ∧ { t with adits := s.adits } = s) ∧
    (∀ k f, (aditAt s a).landing = [f] → streamOf f = k → aditBefore f.seq (aditAt s a).ack = true → f.lost = false →
      (f.service = true ∨ ∃ g ∈ f.flits, f.flits = [g] ∧ flitAccepted s a f g = true) →
      gives (.landingDeliver a k) s fun t => f ∉ (aditAt t a).landing) ∧
    (∀ k f, (aditAt s a).landing = [f] → ∀ g r, f.flits = g :: r → flitAccepted s a f g = false →
      gives (.landingDeliver a k) s fun t => (aditAt t a).landing = [f])

/-- A clock domain that was starting runs and what waited for it is let through in the order of its arrival, as if it came now; an idle
plane domain stops after 10 us and not before, and a busy one runs on. Throttling brings the clock to at most 600 MHz, counted once,
and its end lifts that. The clock of a rise follows the acknowledgement of the supply. A profile change that the supply has
acknowledged is done: the profile is shown and kept in the log. AUTO_DORMANT enters only while its conditions hold, among which log
entry 52 counts that no access waits for a clock; Dormant stops the clocks and takes ports to QUIET. An instance that wakes runs, its
lattice ports leave QUIET and what waited is let through. A microcode swap that is done runs from the other slot and lets the engine's
requests through. -/
def Obligations.PowerEvents : Prop :=
  ∀ s : State,
    (∀ d, (match d with | some k => k < s.params.planes | none => True) → d ∉ s.power.starting → exec (.fabricClockStarted d) s = .next s) ∧
    (∀ k, k < s.params.planes → some k ∈ s.power.starting → exec (.fabricClockStarted (some k)) s =
      .next (resumeWork (letThrough { s with power := { s.power with
        starting := s.power.starting.erase (some k), planes := s.power.planes ||| (1 : BitVec 8) <<< k } } (.clock (some k))))) ∧
    (none ∈ s.power.starting → exec (.fabricClockStarted none) s =
      .next (resumeWork (letThrough { s with power := { s.power with starting := s.power.starting.erase none, common := true } } (.clock none)))) ∧
    (∀ c, mayWait s c → exec c s = .next (serveHeld s c)) ∧
    (∀ k e, k < s.params.planes → (e < 10 ∨ planeBusy s k = true → exec (.fabricClockStop (some k) e) s = .next s) ∧
      (10 ≤ e → planeBusy s k = false → exec (.fabricClockStop (some k) e) s =
        .next { s with power := { s.power with planes := s.power.planes &&& ~~~((1 : BitVec 8) <<< k) } })) ∧
    (∀ e, 10 ≤ e → s.power.planes = 0 → s.power.starting = [] → (∀ x ∈ s.taps, tapBusy x = false) →
      exec (.fabricClockStop none e) s = .next { s with power := { s.power with common := false } }) ∧
    (∀ e, e < 10 ∨ s.power.planes ≠ 0 ∨ s.power.starting ≠ [] ∨ (∃ x ∈ s.taps, tapBusy x = true) →
      exec (.fabricClockStop none e) s = .next s) ∧
    (s.power.throttle = true → exec .throttleRise s = .next s) ∧
    (s.power.throttle = false → gives .throttleRise s fun t => t.power.throttle = true ∧
      t.power.mhz = min (min (odGet s 0x7100 0x03) s.power.ceiling) 600 ∧
      odGet t 0x7100 0x09 = min (odGet s 0x7100 0x09 + 1) 0xFFFFFFFF ∧ onlyObjects s t [(0x7100, 0x09)] ∧
      { t with od := s.od, power := s.power } = s) ∧
    (gives .throttleFall s fun t => t.power.throttle = false ∧ t.power.mhz = min (min (odGet s 0x7100 0x03) s.power.ceiling) 1100 ∧
      { t with power := s.power } = s) ∧
    (s.power.changing = none → exec .profileChangeDone s = .next s ∧
      exec .vidAck s = .next { s with power := { s.power with vidAck := true } }) ∧
    (∀ v, s.power.changing = some v → gives .vidAck s fun t => t.power.vidAck = true ∧
      (t.power.ceiling = if s.power.rising then (if v = 1 then 1000 else if v = 2 then 800 else 1100) else s.power.ceiling) ∧
      t.power.mhz = min (min (odGet s 0x7100 0x03) t.power.ceiling) (if s.power.throttle then 600 else 1100) ∧
      t.power.changing = some v ∧ { t with power := s.power } = s) ∧
    (∀ v, s.power.changing = some v → odGet s 0x7100 0x02 = v → (s.power.rising = true → s.power.vidAck = true) →
      gives .profileChangeDone s fun t => t.power.changing = none ∧ { t with power := s.power } = s) ∧
    (∀ v, s.power.changing = some v → (s.power.rising = true → s.power.vidAck = true) → odGet s 0x7100 0x02 ≠ v →
      odGet s 0x7100 0x08 < 64 → gives .profileChangeDone s fun t =>
        t.power.changing = none ∧ odGet t 0x7100 0x02 = v ∧ odGet t 0x7100 0x08 = (odGet s 0x7100 0x08 + 1) % 64 ∧
        odGet t 0x7101 (1 + odGet s 0x7100 0x08) = (gtcNow s).toNat % 2 ^ 56 * 2 ^ 8 + v % 16) ∧
    (∀ v, s.power.changing = some v → s.power.rising = true → s.power.vidAck = false → exec .profileChangeDone s = .next s) ∧
    (∀ e, 0 < odGet s 0x7100 0x07 → odGet s 0x7100 0x07 ≤ e → dormantOk s = true → s.power.state = .running →
      exec (.autoDormantExpiry e) s = .next (post { s with power := { s.power with state := .entering } } .dormantEntry)) ∧
    (∀ e, odGet s 0x7100 0x07 = 0 ∨ e < odGet s 0x7100 0x07 ∨ dormantOk s = false → exec (.autoDormantExpiry e) s = .next s) ∧
    (dormantOk s = true → s.power.state = .entering → gives .dormantEntry s fun t => t.power.state = .dormant ∧ t.power.common = false ∧
      t.power.planes = 0 ∧ (∀ p, (latAt s p).state = .active → (latAt t p).state = .quiet) ∧
      (∀ a, (aditAt s a).state = .active → (aditAt t a).state = .quiet) ∧
      { t with power := s.power, lattice := s.lattice, adits := s.adits } = s) ∧
    (dormantOk s = false ∨ s.power.state ≠ .entering → exec .dormantEntry s = .next s) ∧
    (s.power.state = .waking → exec .dormantWakeDone s =
      (let u := letThrough { s with
         power := { s.power with state := .running }
         lattice := s.lattice.map fun x => if x.state = .quiet then { x with state := .active } else x } .wake
       .next (resumeWork (if u.taps.any tapBusy then startFabric u else u)))) ∧
    (s.power.state ≠ .waking → exec .dormantWakeDone s = .next s) ∧
    (s.swapping = false → exec .microcodeSwapDone s = .next s) ∧
    (s.swapping = true → exec .microcodeSwapDone s = .next (letThrough (swapped s) .engine) ∧ (swapped s).swapping = false ∧
      (swapped s).sump.queued = [] ∧ odGet (swapped s) 0x7F00 0x01 = idleSlot s ∧ odGet (swapped s) 0x7F00 0x0A = 5 ∧
      (swapped s).held = s.held)

/-- Before a second has passed nothing changes. A pass that finds nothing uncorrectable is counted, and the codewords corrected are
counted, and nothing else changes. A lost codeword of the flag master clears its 256 flags everywhere and leaves the others; a lost
microcode slot is invalid, and the engine runs from the other one where that is valid; a lost flit of a retry buffer is marked, for its
link to go DOWN when it would be sent again (log entry 39). -/
def Obligations.ScrubPasses : Prop :=
  ∀ (s : State) (n e : Nat), Shaped s →
    (∀ l, e < 1000 → exec (.scrubPass n l e) s = .next s) ∧
    (1000 ≤ e → gives (.scrubPass n [] e) s fun t =>
      odGet t 0x7001 0x08 = min (odGet s 0x7001 0x08 + 1) 0xFFFFFFFF ∧ odGet t 0x7000 0x0E = min (odGet s 0x7000 0x0E + n) 0xFFFFFFFF ∧
      onlyObjects s t [(0x7001, 0x08), (0x7000, 0x0E)] ∧ { t with od := s.od } = s) ∧
    (∀ c, 1000 ≤ e → c < 16 → gives (.scrubPass n [.flagMaster c] e) s fun t =>
      (∀ f, f < 4096 → t.flags.getLsbD f = (s.flags.getLsbD f && decide (f / 256 ≠ c))) ∧
      ∀ u, u < s.params.taps → (tapAt t u).mirror = t.flags) ∧
    (∀ k, 1000 ≤ e → k < 2 → gives (.scrubPass n [.microcode k] e) s fun t =>
      (odGet t 0x7F00 0x04).testBit k = false ∧ odGet t 0x7F00 (0x02 + k) = 0 ∧
      (odGet s 0x7F00 0x01 = k → (odGet s 0x7F00 0x04).testBit (1 - k) = true → odGet t 0x7F00 0x01 = 1 - k) ∧
      (odGet s 0x7F00 0x01 ≠ k → odGet t 0x7F00 0x01 = odGet s 0x7F00 0x01)) ∧
    (∀ p f r, 1000 ≤ e → p < s.params.latticePorts → (latAt s p).retry = f :: r → gives (.scrubPass n [.latticeRetry p] e) s fun t =>
      (latAt t p).retry = { f with lost := true } :: r ∧ otherLattice s t p)

/-- POWER_ON_RESET takes the straps, leaves no object off its reset value, GTC 0, no flag and no sump record. The reset pin leaves
volatile objects at their reset values and keeps the retained ones, the GTC and the microcode, with LAST_RESET 2; taps, querns, flags,
launch and lock are as after reset. Its end serves the requests that wait, in order (log entry 55 says what waits); test mode, or a
power-on reset still needed, holds it. Test mode is such a reset with LAST_RESET 1 (log entry 56), in which a wrapper instruction that
is loaded has its effect (log entry 59); its fall ends it. -/
def Obligations.ResetPins : Prop :=
  ∀ s : State, Shaped s →
    (∀ n a, gives (.powerOnReset n a) s fun t => t.nodeStrap = n ∧ t.i3cStrap = a ∧ t.od = [] ∧ t.inForce = [] ∧ t.flags = 0 ∧
      t.gtc.count = 0 ∧ t.sump.recs = [] ∧ t.ucode = [] ∧ t.resetting = true ∧ t.params = s.params ∧ t.pending = s.pending ∧
      (∀ i sub, odGet t i sub = odReset t i sub) ∧ (∀ p, p < s.params.latticePorts → (latAt t p).state = .disabled)) ∧
    (∀ c how, (c = .blockResetPin ∧ how = 2) ∨ (c = .testModeRise ∧ s.testAcc.mode = false ∧ s.testAcc.wir ≠ 5 ∧ how = 1) → gives c s fun t =>
      odGet t 0x7102 0x06 = how ∧ t.resetting = true ∧ t.flags = 0 ∧ t.launch = .idle ∧ t.lock.holder = none ∧ t.inForce = [] ∧
      t.gtc = s.gtc ∧ t.ucode = s.ucode ∧ t.params = s.params ∧
      (∀ i sub, sub < 256 → retained i sub = true → ¬(i = 0x7F00 ∧ sub = 0x0A) → odGet t i sub = odGet s i sub) ∧
      (∀ i sub, sub < 256 → retained i sub = false → ¬(i = 0x7102 ∧ sub = 0x06) → odGet t i sub = odReset s i sub) ∧
      (∀ u, (tapAt t u).state = .unbound ∧ (tapAt t u).queue = []) ∧ (∀ q, (quernAt t q).entries = []) ∧
      (∀ p, p < s.params.latticePorts → (latAt t p).state = .disabled ∧ (latAt t p).enabled = (latAt s p).enabled)) ∧
    (s.resetting = true → s.testAcc.mode = false → s.testAcc.needPor = false → gives .blockResetDone s fun t =>
      t = letThrough (resetEnded s) .engine ∧ (resetEnded s).resetting = false ∧ (resetEnded s).held = s.held ∧ (resetEnded s).od = s.od ∧
      (∀ p, p < s.params.latticePorts → (latAt s p).enabled = true → (latAt (resetEnded s) p).state = .absent)) ∧
    (s.resetting = false ∨ s.testAcc.mode = true ∨ s.testAcc.needPor = true → exec .blockResetDone s = .next s) ∧
    (s.testAcc.mode = true → exec .testModeRise s = .next s) ∧
    (s.testAcc.mode = false → exec .testModeFall s = .next s) ∧
    (s.testAcc.mode = false → gives .testModeRise s fun t => t.testAcc.mode = true ∧ t.testAcc.wir = s.testAcc.wir ∧ t.resetting = true ∧
      (s.testAcc.wir = 3 ∨ s.testAcc.wir = 4 → t.gallery.rows = [] ∧ t.testAcc.result.isSome = true) ∧
      (s.testAcc.wir = 5 → t.testAcc.needPor = true ∧ t.sump.recs.length = 1024)) ∧
    (s.testAcc.mode = true → exec .testModeFall s = exec .blockResetDone { s with testAcc := { s.testAcc with mode := false, wir := 0 } })

/-- Each wrapper instruction stands in the instruction register with its code (WS_BYPASS with 0 or with the reserved 7); outside test
mode nothing else changes, not even its cells. In test mode a scan or a memory test of the block leaves the Gallery empty; the test of
the always-on memories asks for a power-on reset and leaves 1024 records of free values in the sump; the cells shifted in are kept,
WS_EXTEST drives them out and WS_INTEST presents them at the inputs of the block alone; what they capture and every result is a free
value (log entry 59). EXTEST and its variants capture the pins, update the cells of ports in TEST alone and drive the transmit cells of
those ports. SAMPLE_PRELOAD captures the pins and drives nothing; that it loads the update stage of every cell, also of the ports not
in TEST that ignore it, is the model's choice (log entry 59). -/
def Obligations.TestAccesses : Prop :=
  ∀ (s : State) (cells pins : List Bool),
    (exec .wsBypass s = .next { useFree s with testAcc := { s.testAcc with wir := if freeVal s % 2 = 1 then 7 else 0 } }) ∧
    (s.testAcc.mode = false → ∀ c n, ((c = .wsExtest cells ∧ n = 1) ∨ (c = .wsIntest cells ∧ n = 2) ∨ (c = .wpScan ∧ n = 3) ∨
        (c = .wsMbist ∧ n = 4) ∨ (c = .wsMbistAon ∧ n = 5) ∨ (c = .wsLaneLoop ∧ n = 6)) →
      exec c s = .next { s with testAcc := { s.testAcc with wir := BitVec.ofNat 3 n } }) ∧
    (s.testAcc.mode = true →
      (∀ c n, ((c = .wsExtest cells ∧ n = 1) ∨ (c = .wsIntest cells ∧ n = 2)) → gives c s fun t =>
        t.testAcc.wir = BitVec.ofNat 3 n ∧ t.testAcc.wrapCells = cells ∧ t.testAcc.wrapCaptured.length = cells.length ∧
        (t.outs = if n = 1 then s.outs ++ [.testData cells] else s.outs) ∧ (scanInputs t = if n = 2 then some cells else none) ∧
        { t with testAcc := s.testAcc, outs := s.outs, freeCount := s.freeCount } = s) ∧
      (∀ c n, ((c = .wpScan ∧ n = 3) ∨ (c = .wsMbist ∧ n = 4)) → gives c s fun t =>
        t.testAcc.wir = BitVec.ofNat 3 n ∧ t.gallery.rows = [] ∧ t.testAcc.result.isSome = true ∧ t.od = s.od) ∧
      (gives .wsMbistAon s fun t => t.testAcc.wir = 5 ∧ t.testAcc.needPor = true ∧ t.ucode.wf = true ∧ t.sump.recs.length = 1024) ∧
      (gives .wsLaneLoop s fun t => t.testAcc.wir = 6 ∧ t.testAcc.result.isSome = true ∧
        { t with testAcc := s.testAcc, outs := s.outs, freeCount := s.freeCount } = s)) ∧
    (∀ c, c = .extest cells pins ∨ c = .extestPulse cells pins ∨ c = .extestTrain cells pins → gives c s fun t =>
      t.testAcc.captured = pins ∧ t.testAcc.cells.length = 16 * s.params.latticePorts ∧
      (∀ i, i < 16 * s.params.latticePorts → t.testAcc.cells.getD i false =
        if (latAt s (i / 16)).state = .test then cells.getD i false else s.testAcc.cells.getD i false) ∧
      t.outs = s.outs ++ [.testData ((t.testAcc.cells.zipIdx.filter fun c => cellDrives s c.2).map Prod.fst)] ∧
      { t with testAcc := s.testAcc, outs := s.outs } = s) ∧
    exec (.samplePreload cells pins) s = .next { s with testAcc := { s.testAcc with captured := pins, cells := cells } }

/-- For every value whose fields fit their widths: a flit with the length R259 allows reads back as its header and payload; the header
words of a message and of an adit frame read back as the header; the payload of an LCF, the bytes of a time message, of a HELLO block,
of a training block and of an in-band message read back as what they were made of. -/
def Obligations.LinkCodecs : Prop :=
  (∀ (h : FlitHdr) (payload : List Byte), h.fits = true → flitHdrOk (flitWord h) = true → payload.length = h.len →
    flitOf (flitBytes h payload) = some (h, payload)) ∧
  (∀ h : MsgHdr, h.fits = true → ∃ w0 w1 w2 w3, msgWords h = [w0, w1, w2, w3] ∧ w0 < 2 ^ 64 ∧ w1 < 2 ^ 64 ∧ w2 < 2 ^ 64 ∧ w3 < 2 ^ 64 ∧
    msgHdrOf w0 w1 w2 w3 = h) ∧
  (∀ h : AditHdr, h.fits = true → ∃ w0 w1 w2 w3, aditWords h = [w0, w1, w2, w3] ∧ w0 < 2 ^ 64 ∧ w1 < 2 ^ 64 ∧ w2 < 2 ^ 64 ∧ w3 < 2 ^ 64 ∧
    aditHdrOf w0 w1 w2 w3 = h) ∧
  (∀ i : LcfInfo, i.ack < 2 ^ 24 → i.freedVc0.length = 8 → i.freedVc1.length = 8 → (∀ n ∈ i.freedVc0 ++ i.freedVc1, n < 2 ^ 16) →
    i.freedVc2 < 2 ^ 16 → i.freedVc3 < 2 ^ 16 → i.freedVc4 < 2 ^ 16 → lcfOf (lcfBytes i) = i ∧ (lcfBytes i).length = 240) ∧
  (∀ m : TimeMsg, m.kind < 256 → m.state < 256 → m.tTx < 2 ^ 64 → m.tRx < 2 ^ 64 → m.tEcho < 2 ^ 64 → m.tTxFrac < 2 ^ 16 →
    m.tRxFrac < 2 ^ 16 → m.tEchoFrac < 2 ^ 16 → timeOf (timeBytes m) = m ∧ (timeBytes m).length = 64) ∧
  (∀ h : HelloBlock, h.node < 2 ^ 32 → h.port < 2 ^ 16 → h.flitsMax < 256 → h.session < 2 ^ 64 → helloOf (helloBytes h) = h) ∧
  (∀ b : TrainBlock, b.lane < 8 → b.phase < 8 → b.width < 256 → b.node < 2 ^ 32 → b.port < 2 ^ 16 → b.rxGood < 256 →
    trainOf (trainBytes b) = some b ∧ (trainBytes b).length = 16) ∧
  (∀ m : IbMsg, m.rmode < 256 → m.hops < 256 → m.hopLimit < 256 → m.pathLen < 256 → m.fwdPath.length = 16 → m.retPath.length = 16 →
    (∀ n ∈ m.fwdPath ++ m.retPath, n < 256) → ibOf (ibBytes m) = m)
end

