-- ==== Sys2Proof/Laws/State.lean ====
section
/-! SUPPORT. One equation per field and update of the state, so that no proof unfolds a record update. -/

namespace Sys2Proof.Machine

/-! ### odSet -/
@[simp] theorem odSet_params (s : State) (i sub v : Nat) : (odSet s i sub v).params = s.params := rfl
@[simp] theorem odSet_od (s : State) (i sub v : Nat) : (odSet s i sub v).od = RegFile.set (odReset s i sub) (odKey i sub) v s.od := rfl
@[simp] theorem odSet_inForce (s : State) (i sub v : Nat) : (odSet s i sub v).inForce = s.inForce := rfl
@[simp] theorem odSet_taps (s : State) (i sub v : Nat) : (odSet s i sub v).taps = s.taps := rfl
@[simp] theorem odSet_querns (s : State) (i sub v : Nat) : (odSet s i sub v).querns = s.querns := rfl
@[simp] theorem odSet_fencedQuerns (s : State) (i sub v : Nat) : (odSet s i sub v).fencedQuerns = s.fencedQuerns := rfl
@[simp] theorem odSet_flags (s : State) (i sub v : Nat) : (odSet s i sub v).flags = s.flags := rfl
@[simp] theorem odSet_blanking (s : State) (i sub v : Nat) : (odSet s i sub v).blanking = s.blanking := rfl
@[simp] theorem odSet_lattice (s : State) (i sub v : Nat) : (odSet s i sub v).lattice = s.lattice := rfl
@[simp] theorem odSet_adits (s : State) (i sub v : Nat) : (odSet s i sub v).adits = s.adits := rfl
@[simp] theorem odSet_sump (s : State) (i sub v : Nat) : (odSet s i sub v).sump = s.sump := rfl
@[simp] theorem odSet_gtc (s : State) (i sub v : Nat) : (odSet s i sub v).gtc = s.gtc := rfl
@[simp] theorem odSet_launch (s : State) (i sub v : Nat) : (odSet s i sub v).launch = s.launch := rfl
@[simp] theorem odSet_gallery (s : State) (i sub v : Nat) : (odSet s i sub v).gallery = s.gallery := rfl
@[simp] theorem odSet_paths (s : State) (i sub v : Nat) : (odSet s i sub v).paths = s.paths := rfl
@[simp] theorem odSet_lock (s : State) (i sub v : Nat) : (odSet s i sub v).lock = s.lock := rfl
@[simp] theorem odSet_power (s : State) (i sub v : Nat) : (odSet s i sub v).power = s.power := rfl
@[simp] theorem odSet_inject (s : State) (i sub v : Nat) : (odSet s i sub v).inject = s.inject := rfl
@[simp] theorem odSet_testAcc (s : State) (i sub v : Nat) : (odSet s i sub v).testAcc = s.testAcc := rfl
@[simp] theorem odSet_setup (s : State) (i sub v : Nat) : (odSet s i sub v).setup = s.setup := rfl
@[simp] theorem odSet_ucode (s : State) (i sub v : Nat) : (odSet s i sub v).ucode = s.ucode := rfl
@[simp] theorem odSet_swapping (s : State) (i sub v : Nat) : (odSet s i sub v).swapping = s.swapping := rfl
@[simp] theorem odSet_swapDue (s : State) (i sub v : Nat) : (odSet s i sub v).swapDue = s.swapDue := rfl
@[simp] theorem odSet_resetting (s : State) (i sub v : Nat) : (odSet s i sub v).resetting = s.resetting := rfl
@[simp] theorem odSet_handoverQ (s : State) (i sub v : Nat) : (odSet s i sub v).handoverQ = s.handoverQ := rfl
@[simp] theorem odSet_handoverSeq (s : State) (i sub v : Nat) : (odSet s i sub v).handoverSeq = s.handoverSeq := rfl
@[simp] theorem odSet_offerDue (s : State) (i sub v : Nat) : (odSet s i sub v).offerDue = s.offerDue := rfl
@[simp] theorem odSet_nodeStrap (s : State) (i sub v : Nat) : (odSet s i sub v).nodeStrap = s.nodeStrap := rfl
@[simp] theorem odSet_i3cStrap (s : State) (i sub v : Nat) : (odSet s i sub v).i3cStrap = s.i3cStrap := rfl
@[simp] theorem odSet_held (s : State) (i sub v : Nat) : (odSet s i sub v).held = s.held := rfl
@[simp] theorem odSet_onDie (s : State) (i sub v : Nat) : (odSet s i sub v).onDie = s.onDie := rfl
@[simp] theorem odSet_outs (s : State) (i sub v : Nat) : (odSet s i sub v).outs = s.outs := rfl
@[simp] theorem odSet_freeCount (s : State) (i sub v : Nat) : (odSet s i sub v).freeCount = s.freeCount := rfl
@[simp] theorem odSet_uptime (s : State) (i sub v : Nat) : (odSet s i sub v).uptime = s.uptime := rfl
@[simp] theorem odSet_pending (s : State) (i sub v : Nat) : (odSet s i sub v).pending = s.pending := rfl

/-! ### cfgSet -/
@[simp] theorem cfgSet_params (s : State) (i sub v : Nat) : (cfgSet s i sub v).params = s.params := rfl
@[simp] theorem cfgSet_od (s : State) (i sub v : Nat) : (cfgSet s i sub v).od = s.od := rfl
@[simp] theorem cfgSet_inForce (s : State) (i sub v : Nat) : (cfgSet s i sub v).inForce = RegFile.set (odReset s i sub) (odKey i sub) v s.inForce := rfl
@[simp] theorem cfgSet_taps (s : State) (i sub v : Nat) : (cfgSet s i sub v).taps = s.taps := rfl
@[simp] theorem cfgSet_querns (s : State) (i sub v : Nat) : (cfgSet s i sub v).querns = s.querns := rfl
@[simp] theorem cfgSet_fencedQuerns (s : State) (i sub v : Nat) : (cfgSet s i sub v).fencedQuerns = s.fencedQuerns := rfl
@[simp] theorem cfgSet_flags (s : State) (i sub v : Nat) : (cfgSet s i sub v).flags = s.flags := rfl
@[simp] theorem cfgSet_blanking (s : State) (i sub v : Nat) : (cfgSet s i sub v).blanking = s.blanking := rfl
@[simp] theorem cfgSet_lattice (s : State) (i sub v : Nat) : (cfgSet s i sub v).lattice = s.lattice := rfl
@[simp] theorem cfgSet_adits (s : State) (i sub v : Nat) : (cfgSet s i sub v).adits = s.adits := rfl
@[simp] theorem cfgSet_sump (s : State) (i sub v : Nat) : (cfgSet s i sub v).sump = s.sump := rfl
@[simp] theorem cfgSet_gtc (s : State) (i sub v : Nat) : (cfgSet s i sub v).gtc = s.gtc := rfl
@[simp] theorem cfgSet_launch (s : State) (i sub v : Nat) : (cfgSet s i sub v).launch = s.launch := rfl
@[simp] theorem cfgSet_gallery (s : State) (i sub v : Nat) : (cfgSet s i sub v).gallery = s.gallery := rfl
@[simp] theorem cfgSet_paths (s : State) (i sub v : Nat) : (cfgSet s i sub v).paths = s.paths := rfl
@[simp] theorem cfgSet_lock (s : State) (i sub v : Nat) : (cfgSet s i sub v).lock = s.lock := rfl
@[simp] theorem cfgSet_power (s : State) (i sub v : Nat) : (cfgSet s i sub v).power = s.power := rfl
@[simp] theorem cfgSet_inject (s : State) (i sub v : Nat) : (cfgSet s i sub v).inject = s.inject := rfl
@[simp] theorem cfgSet_testAcc (s : State) (i sub v : Nat) : (cfgSet s i sub v).testAcc = s.testAcc := rfl
@[simp] theorem cfgSet_setup (s : State) (i sub v : Nat) : (cfgSet s i sub v).setup = s.setup := rfl
@[simp] theorem cfgSet_ucode (s : State) (i sub v : Nat) : (cfgSet s i sub v).ucode = s.ucode := rfl
@[simp] theorem cfgSet_swapping (s : State) (i sub v : Nat) : (cfgSet s i sub v).swapping = s.swapping := rfl
@[simp] theorem cfgSet_swapDue (s : State) (i sub v : Nat) : (cfgSet s i sub v).swapDue = s.swapDue := rfl
@[simp] theorem cfgSet_resetting (s : State) (i sub v : Nat) : (cfgSet s i sub v).resetting = s.resetting := rfl
@[simp] theorem cfgSet_handoverQ (s : State) (i sub v : Nat) : (cfgSet s i sub v).handoverQ = s.handoverQ := rfl
@[simp] theorem cfgSet_handoverSeq (s : State) (i sub v : Nat) : (cfgSet s i sub v).handoverSeq = s.handoverSeq := rfl
@[simp] theorem cfgSet_offerDue (s : State) (i sub v : Nat) : (cfgSet s i sub v).offerDue = s.offerDue := rfl
@[simp] theorem cfgSet_nodeStrap (s : State) (i sub v : Nat) : (cfgSet s i sub v).nodeStrap = s.nodeStrap := rfl
@[simp] theorem cfgSet_i3cStrap (s : State) (i sub v : Nat) : (cfgSet s i sub v).i3cStrap = s.i3cStrap := rfl
@[simp] theorem cfgSet_held (s : State) (i sub v : Nat) : (cfgSet s i sub v).held = s.held := rfl
@[simp] theorem cfgSet_onDie (s : State) (i sub v : Nat) : (cfgSet s i sub v).onDie = s.onDie := rfl
@[simp] theorem cfgSet_outs (s : State) (i sub v : Nat) : (cfgSet s i sub v).outs = s.outs := rfl
@[simp] theorem cfgSet_freeCount (s : State) (i sub v : Nat) : (cfgSet s i sub v).freeCount = s.freeCount := rfl
@[simp] theorem cfgSet_uptime (s : State) (i sub v : Nat) : (cfgSet s i sub v).uptime = s.uptime := rfl
@[simp] theorem cfgSet_pending (s : State) (i sub v : Nat) : (cfgSet s i sub v).pending = s.pending := rfl

/-! ### emit -/
@[simp] theorem emit_params (s : State) (o : Output) : (emit s o).params = s.params := rfl
@[simp] theorem emit_od (s : State) (o : Output) : (emit s o).od = s.od := rfl
@[simp] theorem emit_inForce (s : State) (o : Output) : (emit s o).inForce = s.inForce := rfl
@[simp] theorem emit_taps (s : State) (o : Output) : (emit s o).taps = s.taps := rfl
@[simp] theorem emit_querns (s : State) (o : Output) : (emit s o).querns = s.querns := rfl
@[simp] theorem emit_fencedQuerns (s : State) (o : Output) : (emit s o).fencedQuerns = s.fencedQuerns := rfl
@[simp] theorem emit_flags (s : State) (o : Output) : (emit s o).flags = s.flags := rfl
@[simp] theorem emit_blanking (s : State) (o : Output) : (emit s o).blanking = s.blanking := rfl
@[simp] theorem emit_lattice (s : State) (o : Output) : (emit s o).lattice = s.lattice := rfl
@[simp] theorem emit_adits (s : State) (o : Output) : (emit s o).adits = s.adits := rfl
@[simp] theorem emit_sump (s : State) (o : Output) : (emit s o).sump = s.sump := rfl
@[simp] theorem emit_gtc (s : State) (o : Output) : (emit s o).gtc = s.gtc := rfl
@[simp] theorem emit_launch (s : State) (o : Output) : (emit s o).launch = s.launch := rfl
@[simp] theorem emit_gallery (s : State) (o : Output) : (emit s o).gallery = s.gallery := rfl
@[simp] theorem emit_paths (s : State) (o : Output) : (emit s o).paths = s.paths := rfl
@[simp] theorem emit_lock (s : State) (o : Output) : (emit s o).lock = s.lock := rfl
@[simp] theorem emit_power (s : State) (o : Output) : (emit s o).power = s.power := rfl
@[simp] theorem emit_inject (s : State) (o : Output) : (emit s o).inject = s.inject := rfl
@[simp] theorem emit_testAcc (s : State) (o : Output) : (emit s o).testAcc = s.testAcc := rfl
@[simp] theorem emit_setup (s : State) (o : Output) : (emit s o).setup = s.setup := rfl
@[simp] theorem emit_ucode (s : State) (o : Output) : (emit s o).ucode = s.ucode := rfl
@[simp] theorem emit_swapping (s : State) (o : Output) : (emit s o).swapping = s.swapping := rfl
@[simp] theorem emit_swapDue (s : State) (o : Output) : (emit s o).swapDue = s.swapDue := rfl
@[simp] theorem emit_resetting (s : State) (o : Output) : (emit s o).resetting = s.resetting := rfl
@[simp] theorem emit_handoverQ (s : State) (o : Output) : (emit s o).handoverQ = s.handoverQ := rfl
@[simp] theorem emit_handoverSeq (s : State) (o : Output) : (emit s o).handoverSeq = s.handoverSeq := rfl
@[simp] theorem emit_offerDue (s : State) (o : Output) : (emit s o).offerDue = s.offerDue := rfl
@[simp] theorem emit_nodeStrap (s : State) (o : Output) : (emit s o).nodeStrap = s.nodeStrap := rfl
@[simp] theorem emit_i3cStrap (s : State) (o : Output) : (emit s o).i3cStrap = s.i3cStrap := rfl
@[simp] theorem emit_held (s : State) (o : Output) : (emit s o).held = s.held := rfl
@[simp] theorem emit_onDie (s : State) (o : Output) : (emit s o).onDie = s.onDie := rfl
@[simp] theorem emit_outs (s : State) (o : Output) : (emit s o).outs = s.outs ++ [o] := rfl
@[simp] theorem emit_freeCount (s : State) (o : Output) : (emit s o).freeCount = s.freeCount := rfl
@[simp] theorem emit_uptime (s : State) (o : Output) : (emit s o).uptime = s.uptime := rfl
@[simp] theorem emit_pending (s : State) (o : Output) : (emit s o).pending = s.pending := rfl

/-! ### post -/
@[simp] theorem post_params (s : State) (c : Instr) : (post s c).params = s.params := rfl
@[simp] theorem post_od (s : State) (c : Instr) : (post s c).od = s.od := rfl
@[simp] theorem post_inForce (s : State) (c : Instr) : (post s c).inForce = s.inForce := rfl
@[simp] theorem post_taps (s : State) (c : Instr) : (post s c).taps = s.taps := rfl
@[simp] theorem post_querns (s : State) (c : Instr) : (post s c).querns = s.querns := rfl
@[simp] theorem post_fencedQuerns (s : State) (c : Instr) : (post s c).fencedQuerns = s.fencedQuerns := rfl
@[simp] theorem post_flags (s : State) (c : Instr) : (post s c).flags = s.flags := rfl
@[simp] theorem post_blanking (s : State) (c : Instr) : (post s c).blanking = s.blanking := rfl
@[simp] theorem post_lattice (s : State) (c : Instr) : (post s c).lattice = s.lattice := rfl
@[simp] theorem post_adits (s : State) (c : Instr) : (post s c).adits = s.adits := rfl
@[simp] theorem post_sump (s : State) (c : Instr) : (post s c).sump = s.sump := rfl
@[simp] theorem post_gtc (s : State) (c : Instr) : (post s c).gtc = s.gtc := rfl
@[simp] theorem post_launch (s : State) (c : Instr) : (post s c).launch = s.launch := rfl
@[simp] theorem post_gallery (s : State) (c : Instr) : (post s c).gallery = s.gallery := rfl
@[simp] theorem post_paths (s : State) (c : Instr) : (post s c).paths = s.paths := rfl
@[simp] theorem post_lock (s : State) (c : Instr) : (post s c).lock = s.lock := rfl
@[simp] theorem post_power (s : State) (c : Instr) : (post s c).power = s.power := rfl
@[simp] theorem post_inject (s : State) (c : Instr) : (post s c).inject = s.inject := rfl
@[simp] theorem post_testAcc (s : State) (c : Instr) : (post s c).testAcc = s.testAcc := rfl
@[simp] theorem post_setup (s : State) (c : Instr) : (post s c).setup = s.setup := rfl
@[simp] theorem post_ucode (s : State) (c : Instr) : (post s c).ucode = s.ucode := rfl
@[simp] theorem post_swapping (s : State) (c : Instr) : (post s c).swapping = s.swapping := rfl
@[simp] theorem post_swapDue (s : State) (c : Instr) : (post s c).swapDue = s.swapDue := rfl
@[simp] theorem post_resetting (s : State) (c : Instr) : (post s c).resetting = s.resetting := rfl
@[simp] theorem post_handoverQ (s : State) (c : Instr) : (post s c).handoverQ = s.handoverQ := rfl
@[simp] theorem post_handoverSeq (s : State) (c : Instr) : (post s c).handoverSeq = s.handoverSeq := rfl
@[simp] theorem post_offerDue (s : State) (c : Instr) : (post s c).offerDue = s.offerDue := rfl
@[simp] theorem post_nodeStrap (s : State) (c : Instr) : (post s c).nodeStrap = s.nodeStrap := rfl
@[simp] theorem post_i3cStrap (s : State) (c : Instr) : (post s c).i3cStrap = s.i3cStrap := rfl
@[simp] theorem post_held (s : State) (c : Instr) : (post s c).held = s.held := rfl
@[simp] theorem post_onDie (s : State) (c : Instr) : (post s c).onDie = s.onDie ++ [c] := rfl
@[simp] theorem post_outs (s : State) (c : Instr) : (post s c).outs = s.outs := rfl
@[simp] theorem post_freeCount (s : State) (c : Instr) : (post s c).freeCount = s.freeCount := rfl
@[simp] theorem post_uptime (s : State) (c : Instr) : (post s c).uptime = s.uptime := rfl
@[simp] theorem post_pending (s : State) (c : Instr) : (post s c).pending = s.pending := rfl

/-! ### postAll -/
@[simp] theorem postAll_params (s : State) (cs : List Instr) : (postAll s cs).params = s.params := rfl
@[simp] theorem postAll_od (s : State) (cs : List Instr) : (postAll s cs).od = s.od := rfl
@[simp] theorem postAll_inForce (s : State) (cs : List Instr) : (postAll s cs).inForce = s.inForce := rfl
@[simp] theorem postAll_taps (s : State) (cs : List Instr) : (postAll s cs).taps = s.taps := rfl
@[simp] theorem postAll_querns (s : State) (cs : List Instr) : (postAll s cs).querns = s.querns := rfl
@[simp] theorem postAll_fencedQuerns (s : State) (cs : List Instr) : (postAll s cs).fencedQuerns = s.fencedQuerns := rfl
@[simp] theorem postAll_flags (s : State) (cs : List Instr) : (postAll s cs).flags = s.flags := rfl
@[simp] theorem postAll_blanking (s : State) (cs : List Instr) : (postAll s cs).blanking = s.blanking := rfl
@[simp] theorem postAll_lattice (s : State) (cs : List Instr) : (postAll s cs).lattice = s.lattice := rfl
@[simp] theorem postAll_adits (s : State) (cs : List Instr) : (postAll s cs).adits = s.adits := rfl
@[simp] theorem postAll_sump (s : State) (cs : List Instr) : (postAll s cs).sump = s.sump := rfl
@[simp] theorem postAll_gtc (s : State) (cs : List Instr) : (postAll s cs).gtc = s.gtc := rfl
@[simp] theorem postAll_launch (s : State) (cs : List Instr) : (postAll s cs).launch = s.launch := rfl
@[simp] theorem postAll_gallery (s : State) (cs : List Instr) : (postAll s cs).gallery = s.gallery := rfl
@[simp] theorem postAll_paths (s : State) (cs : List Instr) : (postAll s cs).paths = s.paths := rfl
@[simp] theorem postAll_lock (s : State) (cs : List Instr) : (postAll s cs).lock = s.lock := rfl
@[simp] theorem postAll_power (s : State) (cs : List Instr) : (postAll s cs).power = s.power := rfl
@[simp] theorem postAll_inject (s : State) (cs : List Instr) : (postAll s cs).inject = s.inject := rfl
@[simp] theorem postAll_testAcc (s : State) (cs : List Instr) : (postAll s cs).testAcc = s.testAcc := rfl
@[simp] theorem postAll_setup (s : State) (cs : List Instr) : (postAll s cs).setup = s.setup := rfl
@[simp] theorem postAll_ucode (s : State) (cs : List Instr) : (postAll s cs).ucode = s.ucode := rfl
@[simp] theorem postAll_swapping (s : State) (cs : List Instr) : (postAll s cs).swapping = s.swapping := rfl
@[simp] theorem postAll_swapDue (s : State) (cs : List Instr) : (postAll s cs).swapDue = s.swapDue := rfl
@[simp] theorem postAll_resetting (s : State) (cs : List Instr) : (postAll s cs).resetting = s.resetting := rfl
@[simp] theorem postAll_handoverQ (s : State) (cs : List Instr) : (postAll s cs).handoverQ = s.handoverQ := rfl
@[simp] theorem postAll_handoverSeq (s : State) (cs : List Instr) : (postAll s cs).handoverSeq = s.handoverSeq := rfl
@[simp] theorem postAll_offerDue (s : State) (cs : List Instr) : (postAll s cs).offerDue = s.offerDue := rfl
@[simp] theorem postAll_nodeStrap (s : State) (cs : List Instr) : (postAll s cs).nodeStrap = s.nodeStrap := rfl
@[simp] theorem postAll_i3cStrap (s : State) (cs : List Instr) : (postAll s cs).i3cStrap = s.i3cStrap := rfl
@[simp] theorem postAll_held (s : State) (cs : List Instr) : (postAll s cs).held = s.held := rfl
@[simp] theorem postAll_onDie (s : State) (cs : List Instr) : (postAll s cs).onDie = s.onDie ++ cs := rfl
@[simp] theorem postAll_outs (s : State) (cs : List Instr) : (postAll s cs).outs = s.outs := rfl
@[simp] theorem postAll_freeCount (s : State) (cs : List Instr) : (postAll s cs).freeCount = s.freeCount := rfl
@[simp] theorem postAll_uptime (s : State) (cs : List Instr) : (postAll s cs).uptime = s.uptime := rfl
@[simp] theorem postAll_pending (s : State) (cs : List Instr) : (postAll s cs).pending = s.pending := rfl

/-! ### useFree -/
@[simp] theorem useFree_params (s : State) : (useFree s).params = s.params := rfl
@[simp] theorem useFree_od (s : State) : (useFree s).od = s.od := rfl
@[simp] theorem useFree_inForce (s : State) : (useFree s).inForce = s.inForce := rfl
@[simp] theorem useFree_taps (s : State) : (useFree s).taps = s.taps := rfl
@[simp] theorem useFree_querns (s : State) : (useFree s).querns = s.querns := rfl
@[simp] theorem useFree_fencedQuerns (s : State) : (useFree s).fencedQuerns = s.fencedQuerns := rfl
@[simp] theorem useFree_flags (s : State) : (useFree s).flags = s.flags := rfl
@[simp] theorem useFree_blanking (s : State) : (useFree s).blanking = s.blanking := rfl
@[simp] theorem useFree_lattice (s : State) : (useFree s).lattice = s.lattice := rfl
@[simp] theorem useFree_adits (s : State) : (useFree s).adits = s.adits := rfl
@[simp] theorem useFree_sump (s : State) : (useFree s).sump = s.sump := rfl
@[simp] theorem useFree_gtc (s : State) : (useFree s).gtc = s.gtc := rfl
@[simp] theorem useFree_launch (s : State) : (useFree s).launch = s.launch := rfl
@[simp] theorem useFree_gallery (s : State) : (useFree s).gallery = s.gallery := rfl
@[simp] theorem useFree_paths (s : State) : (useFree s).paths = s.paths := rfl
@[simp] theorem useFree_lock (s : State) : (useFree s).lock = s.lock := rfl
@[simp] theorem useFree_power (s : State) : (useFree s).power = s.power := rfl
@[simp] theorem useFree_inject (s : State) : (useFree s).inject = s.inject := rfl
@[simp] theorem useFree_testAcc (s : State) : (useFree s).testAcc = s.testAcc := rfl
@[simp] theorem useFree_setup (s : State) : (useFree s).setup = s.setup := rfl
@[simp] theorem useFree_ucode (s : State) : (useFree s).ucode = s.ucode := rfl
@[simp] theorem useFree_swapping (s : State) : (useFree s).swapping = s.swapping := rfl
@[simp] theorem useFree_swapDue (s : State) : (useFree s).swapDue = s.swapDue := rfl
@[simp] theorem useFree_resetting (s : State) : (useFree s).resetting = s.resetting := rfl
@[simp] theorem useFree_handoverQ (s : State) : (useFree s).handoverQ = s.handoverQ := rfl
@[simp] theorem useFree_handoverSeq (s : State) : (useFree s).handoverSeq = s.handoverSeq := rfl
@[simp] theorem useFree_offerDue (s : State) : (useFree s).offerDue = s.offerDue := rfl
@[simp] theorem useFree_nodeStrap (s : State) : (useFree s).nodeStrap = s.nodeStrap := rfl
@[simp] theorem useFree_i3cStrap (s : State) : (useFree s).i3cStrap = s.i3cStrap := rfl
@[simp] theorem useFree_held (s : State) : (useFree s).held = s.held := rfl
@[simp] theorem useFree_onDie (s : State) : (useFree s).onDie = s.onDie := rfl
@[simp] theorem useFree_outs (s : State) : (useFree s).outs = s.outs := rfl
@[simp] theorem useFree_freeCount (s : State) : (useFree s).freeCount = s.freeCount + 1 := rfl
@[simp] theorem useFree_uptime (s : State) : (useFree s).uptime = s.uptime := rfl
@[simp] theorem useFree_pending (s : State) : (useFree s).pending = s.pending := rfl

/-! ### modTap -/
@[simp] theorem modTap_params (s : State) (t : Nat) (f : Tap → Tap) : (modTap s t f).params = s.params := rfl
@[simp] theorem modTap_od (s : State) (t : Nat) (f : Tap → Tap) : (modTap s t f).od = s.od := rfl
@[simp] theorem modTap_inForce (s : State) (t : Nat) (f : Tap → Tap) : (modTap s t f).inForce = s.inForce := rfl
@[simp] theorem modTap_taps (s : State) (t : Nat) (f : Tap → Tap) : (modTap s t f).taps = s.taps.modify t f := rfl
@[simp] theorem modTap_querns (s : State) (t : Nat) (f : Tap → Tap) : (modTap s t f).querns = s.querns := rfl
@[simp] theorem modTap_fencedQuerns (s : State) (t : Nat) (f : Tap → Tap) : (modTap s t f).fencedQuerns = s.fencedQuerns := rfl
@[simp] theorem modTap_flags (s : State) (t : Nat) (f : Tap → Tap) : (modTap s t f).flags = s.flags := rfl
@[simp] theorem modTap_blanking (s : State) (t : Nat) (f : Tap → Tap) : (modTap s t f).blanking = s.blanking := rfl
@[simp] theorem modTap_lattice (s : State) (t : Nat) (f : Tap → Tap) : (modTap s t f).lattice = s.lattice := rfl
@[simp] theorem modTap_adits (s : State) (t : Nat) (f : Tap → Tap) : (modTap s t f).adits = s.adits := rfl
@[simp] theorem modTap_sump (s : State) (t : Nat) (f : Tap → Tap) : (modTap s t f).sump = s.sump := rfl
@[simp] theorem modTap_gtc (s : State) (t : Nat) (f : Tap → Tap) : (modTap s t f).gtc = s.gtc := rfl
@[simp] theorem modTap_launch (s : State) (t : Nat) (f : Tap → Tap) : (modTap s t f).launch = s.launch := rfl
@[simp] theorem modTap_gallery (s : State) (t : Nat) (f : Tap → Tap) : (modTap s t f).gallery = s.gallery := rfl
@[simp] theorem modTap_paths (s : State) (t : Nat) (f : Tap → Tap) : (modTap s t f).paths = s.paths := rfl
@[simp] theorem modTap_lock (s : State) (t : Nat) (f : Tap → Tap) : (modTap s t f).lock = s.lock := rfl
@[simp] theorem modTap_power (s : State) (t : Nat) (f : Tap → Tap) : (modTap s t f).power = s.power := rfl
@[simp] theorem modTap_inject (s : State) (t : Nat) (f : Tap → Tap) : (modTap s t f).inject = s.inject := rfl
@[simp] theorem modTap_testAcc (s : State) (t : Nat) (f : Tap → Tap) : (modTap s t f).testAcc = s.testAcc := rfl
@[simp] theorem modTap_setup (s : State) (t : Nat) (f : Tap → Tap) : (modTap s t f).setup = s.setup := rfl
@[simp] theorem modTap_ucode (s : State) (t : Nat) (f : Tap → Tap) : (modTap s t f).ucode = s.ucode := rfl
@[simp] theorem modTap_swapping (s : State) (t : Nat) (f : Tap → Tap) : (modTap s t f).swapping = s.swapping := rfl
@[simp] theorem modTap_swapDue (s : State) (t : Nat) (f : Tap → Tap) : (modTap s t f).swapDue = s.swapDue := rfl
@[simp] theorem modTap_resetting (s : State) (t : Nat) (f : Tap → Tap) : (modTap s t f).resetting = s.resetting := rfl
@[simp] theorem modTap_handoverQ (s : State) (t : Nat) (f : Tap → Tap) : (modTap s t f).handoverQ = s.handoverQ := rfl
@[simp] theorem modTap_handoverSeq (s : State) (t : Nat) (f : Tap → Tap) : (modTap s t f).handoverSeq = s.handoverSeq := rfl
@[simp] theorem modTap_offerDue (s : State) (t : Nat) (f : Tap → Tap) : (modTap s t f).offerDue = s.offerDue := rfl
@[simp] theorem modTap_nodeStrap (s : State) (t : Nat) (f : Tap → Tap) : (modTap s t f).nodeStrap = s.nodeStrap := rfl
@[simp] theorem modTap_i3cStrap (s : State) (t : Nat) (f : Tap → Tap) : (modTap s t f).i3cStrap = s.i3cStrap := rfl
@[simp] theorem modTap_held (s : State) (t : Nat) (f : Tap → Tap) : (modTap s t f).held = s.held := rfl
@[simp] theorem modTap_onDie (s : State) (t : Nat) (f : Tap → Tap) : (modTap s t f).onDie = s.onDie := rfl
@[simp] theorem modTap_outs (s : State) (t : Nat) (f : Tap → Tap) : (modTap s t f).outs = s.outs := rfl
@[simp] theorem modTap_freeCount (s : State) (t : Nat) (f : Tap → Tap) : (modTap s t f).freeCount = s.freeCount := rfl
@[simp] theorem modTap_uptime (s : State) (t : Nat) (f : Tap → Tap) : (modTap s t f).uptime = s.uptime := rfl
@[simp] theorem modTap_pending (s : State) (t : Nat) (f : Tap → Tap) : (modTap s t f).pending = s.pending := rfl

/-! ### modQuern -/
@[simp] theorem modQuern_params (s : State) (q : Nat) (f : Quern → Quern) : (modQuern s q f).params = s.params := rfl
@[simp] theorem modQuern_od (s : State) (q : Nat) (f : Quern → Quern) : (modQuern s q f).od = s.od := rfl
@[simp] theorem modQuern_inForce (s : State) (q : Nat) (f : Quern → Quern) : (modQuern s q f).inForce = s.inForce := rfl
@[simp] theorem modQuern_taps (s : State) (q : Nat) (f : Quern → Quern) : (modQuern s q f).taps = s.taps := rfl
@[simp] theorem modQuern_querns (s : State) (q : Nat) (f : Quern → Quern) : (modQuern s q f).querns = s.querns.modify q f := rfl
@[simp] theorem modQuern_fencedQuerns (s : State) (q : Nat) (f : Quern → Quern) : (modQuern s q f).fencedQuerns = s.fencedQuerns := rfl
@[simp] theorem modQuern_flags (s : State) (q : Nat) (f : Quern → Quern) : (modQuern s q f).flags = s.flags := rfl
@[simp] theorem modQuern_blanking (s : State) (q : Nat) (f : Quern → Quern) : (modQuern s q f).blanking = s.blanking := rfl
@[simp] theorem modQuern_lattice (s : State) (q : Nat) (f : Quern → Quern) : (modQuern s q f).lattice = s.lattice := rfl
@[simp] theorem modQuern_adits (s : State) (q : Nat) (f : Quern → Quern) : (modQuern s q f).adits = s.adits := rfl
@[simp] theorem modQuern_sump (s : State) (q : Nat) (f : Quern → Quern) : (modQuern s q f).sump = s.sump := rfl
@[simp] theorem modQuern_gtc (s : State) (q : Nat) (f : Quern → Quern) : (modQuern s q f).gtc = s.gtc := rfl
@[simp] theorem modQuern_launch (s : State) (q : Nat) (f : Quern → Quern) : (modQuern s q f).launch = s.launch := rfl
@[simp] theorem modQuern_gallery (s : State) (q : Nat) (f : Quern → Quern) : (modQuern s q f).gallery = s.gallery := rfl
@[simp] theorem modQuern_paths (s : State) (q : Nat) (f : Quern → Quern) : (modQuern s q f).paths = s.paths := rfl
@[simp] theorem modQuern_lock (s : State) (q : Nat) (f : Quern → Quern) : (modQuern s q f).lock = s.lock := rfl
@[simp] theorem modQuern_power (s : State) (q : Nat) (f : Quern → Quern) : (modQuern s q f).power = s.power := rfl
@[simp] theorem modQuern_inject (s : State) (q : Nat) (f : Quern → Quern) : (modQuern s q f).inject = s.inject := rfl
@[simp] theorem modQuern_testAcc (s : State) (q : Nat) (f : Quern → Quern) : (modQuern s q f).testAcc = s.testAcc := rfl
@[simp] theorem modQuern_setup (s : State) (q : Nat) (f : Quern → Quern) : (modQuern s q f).setup = s.setup := rfl
@[simp] theorem modQuern_ucode (s : State) (q : Nat) (f : Quern → Quern) : (modQuern s q f).ucode = s.ucode := rfl
@[simp] theorem modQuern_swapping (s : State) (q : Nat) (f : Quern → Quern) : (modQuern s q f).swapping = s.swapping := rfl
@[simp] theorem modQuern_swapDue (s : State) (q : Nat) (f : Quern → Quern) : (modQuern s q f).swapDue = s.swapDue := rfl
@[simp] theorem modQuern_resetting (s : State) (q : Nat) (f : Quern → Quern) : (modQuern s q f).resetting = s.resetting := rfl
@[simp] theorem modQuern_handoverQ (s : State) (q : Nat) (f : Quern → Quern) : (modQuern s q f).handoverQ = s.handoverQ := rfl
@[simp] theorem modQuern_handoverSeq (s : State) (q : Nat) (f : Quern → Quern) : (modQuern s q f).handoverSeq = s.handoverSeq := rfl
@[simp] theorem modQuern_offerDue (s : State) (q : Nat) (f : Quern → Quern) : (modQuern s q f).offerDue = s.offerDue := rfl
@[simp] theorem modQuern_nodeStrap (s : State) (q : Nat) (f : Quern → Quern) : (modQuern s q f).nodeStrap = s.nodeStrap := rfl
@[simp] theorem modQuern_i3cStrap (s : State) (q : Nat) (f : Quern → Quern) : (modQuern s q f).i3cStrap = s.i3cStrap := rfl
@[simp] theorem modQuern_held (s : State) (q : Nat) (f : Quern → Quern) : (modQuern s q f).held = s.held := rfl
@[simp] theorem modQuern_onDie (s : State) (q : Nat) (f : Quern → Quern) : (modQuern s q f).onDie = s.onDie := rfl
@[simp] theorem modQuern_outs (s : State) (q : Nat) (f : Quern → Quern) : (modQuern s q f).outs = s.outs := rfl
@[simp] theorem modQuern_freeCount (s : State) (q : Nat) (f : Quern → Quern) : (modQuern s q f).freeCount = s.freeCount := rfl
@[simp] theorem modQuern_uptime (s : State) (q : Nat) (f : Quern → Quern) : (modQuern s q f).uptime = s.uptime := rfl
@[simp] theorem modQuern_pending (s : State) (q : Nat) (f : Quern → Quern) : (modQuern s q f).pending = s.pending := rfl

/-! ### modLat -/
@[simp] theorem modLat_params (s : State) (p : Nat) (f : LatPort → LatPort) : (modLat s p f).params = s.params := rfl
@[simp] theorem modLat_od (s : State) (p : Nat) (f : LatPort → LatPort) : (modLat s p f).od = s.od := rfl
@[simp] theorem modLat_inForce (s : State) (p : Nat) (f : LatPort → LatPort) : (modLat s p f).inForce = s.inForce := rfl
@[simp] theorem modLat_taps (s : State) (p : Nat) (f : LatPort → LatPort) : (modLat s p f).taps = s.taps := rfl
@[simp] theorem modLat_querns (s : State) (p : Nat) (f : LatPort → LatPort) : (modLat s p f).querns = s.querns := rfl
@[simp] theorem modLat_fencedQuerns (s : State) (p : Nat) (f : LatPort → LatPort) : (modLat s p f).fencedQuerns = s.fencedQuerns := rfl
@[simp] theorem modLat_flags (s : State) (p : Nat) (f : LatPort → LatPort) : (modLat s p f).flags = s.flags := rfl
@[simp] theorem modLat_blanking (s : State) (p : Nat) (f : LatPort → LatPort) : (modLat s p f).blanking = s.blanking := rfl
@[simp] theorem modLat_lattice (s : State) (p : Nat) (f : LatPort → LatPort) : (modLat s p f).lattice = s.lattice.modify p f := rfl
@[simp] theorem modLat_adits (s : State) (p : Nat) (f : LatPort → LatPort) : (modLat s p f).adits = s.adits := rfl
@[simp] theorem modLat_sump (s : State) (p : Nat) (f : LatPort → LatPort) : (modLat s p f).sump = s.sump := rfl
@[simp] theorem modLat_gtc (s : State) (p : Nat) (f : LatPort → LatPort) : (modLat s p f).gtc = s.gtc := rfl
@[simp] theorem modLat_launch (s : State) (p : Nat) (f : LatPort → LatPort) : (modLat s p f).launch = s.launch := rfl
@[simp] theorem modLat_gallery (s : State) (p : Nat) (f : LatPort → LatPort) : (modLat s p f).gallery = s.gallery := rfl
@[simp] theorem modLat_paths (s : State) (p : Nat) (f : LatPort → LatPort) : (modLat s p f).paths = s.paths := rfl
@[simp] theorem modLat_lock (s : State) (p : Nat) (f : LatPort → LatPort) : (modLat s p f).lock = s.lock := rfl
@[simp] theorem modLat_power (s : State) (p : Nat) (f : LatPort → LatPort) : (modLat s p f).power = s.power := rfl
@[simp] theorem modLat_inject (s : State) (p : Nat) (f : LatPort → LatPort) : (modLat s p f).inject = s.inject := rfl
@[simp] theorem modLat_testAcc (s : State) (p : Nat) (f : LatPort → LatPort) : (modLat s p f).testAcc = s.testAcc := rfl
@[simp] theorem modLat_setup (s : State) (p : Nat) (f : LatPort → LatPort) : (modLat s p f).setup = s.setup := rfl
@[simp] theorem modLat_ucode (s : State) (p : Nat) (f : LatPort → LatPort) : (modLat s p f).ucode = s.ucode := rfl
@[simp] theorem modLat_swapping (s : State) (p : Nat) (f : LatPort → LatPort) : (modLat s p f).swapping = s.swapping := rfl
@[simp] theorem modLat_swapDue (s : State) (p : Nat) (f : LatPort → LatPort) : (modLat s p f).swapDue = s.swapDue := rfl
@[simp] theorem modLat_resetting (s : State) (p : Nat) (f : LatPort → LatPort) : (modLat s p f).resetting = s.resetting := rfl
@[simp] theorem modLat_handoverQ (s : State) (p : Nat) (f : LatPort → LatPort) : (modLat s p f).handoverQ = s.handoverQ := rfl
@[simp] theorem modLat_handoverSeq (s : State) (p : Nat) (f : LatPort → LatPort) : (modLat s p f).handoverSeq = s.handoverSeq := rfl
@[simp] theorem modLat_offerDue (s : State) (p : Nat) (f : LatPort → LatPort) : (modLat s p f).offerDue = s.offerDue := rfl
@[simp] theorem modLat_nodeStrap (s : State) (p : Nat) (f : LatPort → LatPort) : (modLat s p f).nodeStrap = s.nodeStrap := rfl
@[simp] theorem modLat_i3cStrap (s : State) (p : Nat) (f : LatPort → LatPort) : (modLat s p f).i3cStrap = s.i3cStrap := rfl
@[simp] theorem modLat_held (s : State) (p : Nat) (f : LatPort → LatPort) : (modLat s p f).held = s.held := rfl
@[simp] theorem modLat_onDie (s : State) (p : Nat) (f : LatPort → LatPort) : (modLat s p f).onDie = s.onDie := rfl
@[simp] theorem modLat_outs (s : State) (p : Nat) (f : LatPort → LatPort) : (modLat s p f).outs = s.outs := rfl
@[simp] theorem modLat_freeCount (s : State) (p : Nat) (f : LatPort → LatPort) : (modLat s p f).freeCount = s.freeCount := rfl
@[simp] theorem modLat_uptime (s : State) (p : Nat) (f : LatPort → LatPort) : (modLat s p f).uptime = s.uptime := rfl
@[simp] theorem modLat_pending (s : State) (p : Nat) (f : LatPort → LatPort) : (modLat s p f).pending = s.pending := rfl

/-! ### modAdit -/
@[simp] theorem modAdit_params (s : State) (a : Nat) (f : AditPort → AditPort) : (modAdit s a f).params = s.params := rfl
@[simp] theorem modAdit_od (s : State) (a : Nat) (f : AditPort → AditPort) : (modAdit s a f).od = s.od := rfl
@[simp] theorem modAdit_inForce (s : State) (a : Nat) (f : AditPort → AditPort) : (modAdit s a f).inForce = s.inForce := rfl
@[simp] theorem modAdit_taps (s : State) (a : Nat) (f : AditPort → AditPort) : (modAdit s a f).taps = s.taps := rfl
@[simp] theorem modAdit_querns (s : State) (a : Nat) (f : AditPort → AditPort) : (modAdit s a f).querns = s.querns := rfl
@[simp] theorem modAdit_fencedQuerns (s : State) (a : Nat) (f : AditPort → AditPort) : (modAdit s a f).fencedQuerns = s.fencedQuerns := rfl
@[simp] theorem modAdit_flags (s : State) (a : Nat) (f : AditPort → AditPort) : (modAdit s a f).flags = s.flags := rfl
@[simp] theorem modAdit_blanking (s : State) (a : Nat) (f : AditPort → AditPort) : (modAdit s a f).blanking = s.blanking := rfl
@[simp] theorem modAdit_lattice (s : State) (a : Nat) (f : AditPort → AditPort) : (modAdit s a f).lattice = s.lattice := rfl
@[simp] theorem modAdit_adits (s : State) (a : Nat) (f : AditPort → AditPort) : (modAdit s a f).adits = s.adits.modify a f := rfl
@[simp] theorem modAdit_sump (s : State) (a : Nat) (f : AditPort → AditPort) : (modAdit s a f).sump = s.sump := rfl
@[simp] theorem modAdit_gtc (s : State) (a : Nat) (f : AditPort → AditPort) : (modAdit s a f).gtc = s.gtc := rfl
@[simp] theorem modAdit_launch (s : State) (a : Nat) (f : AditPort → AditPort) : (modAdit s a f).launch = s.launch := rfl
@[simp] theorem modAdit_gallery (s : State) (a : Nat) (f : AditPort → AditPort) : (modAdit s a f).gallery = s.gallery := rfl
@[simp] theorem modAdit_paths (s : State) (a : Nat) (f : AditPort → AditPort) : (modAdit s a f).paths = s.paths := rfl
@[simp] theorem modAdit_lock (s : State) (a : Nat) (f : AditPort → AditPort) : (modAdit s a f).lock = s.lock := rfl
@[simp] theorem modAdit_power (s : State) (a : Nat) (f : AditPort → AditPort) : (modAdit s a f).power = s.power := rfl
@[simp] theorem modAdit_inject (s : State) (a : Nat) (f : AditPort → AditPort) : (modAdit s a f).inject = s.inject := rfl
@[simp] theorem modAdit_testAcc (s : State) (a : Nat) (f : AditPort → AditPort) : (modAdit s a f).testAcc = s.testAcc := rfl
@[simp] theorem modAdit_setup (s : State) (a : Nat) (f : AditPort → AditPort) : (modAdit s a f).setup = s.setup := rfl
@[simp] theorem modAdit_ucode (s : State) (a : Nat) (f : AditPort → AditPort) : (modAdit s a f).ucode = s.ucode := rfl
@[simp] theorem modAdit_swapping (s : State) (a : Nat) (f : AditPort → AditPort) : (modAdit s a f).swapping = s.swapping := rfl
@[simp] theorem modAdit_swapDue (s : State) (a : Nat) (f : AditPort → AditPort) : (modAdit s a f).swapDue = s.swapDue := rfl
@[simp] theorem modAdit_resetting (s : State) (a : Nat) (f : AditPort → AditPort) : (modAdit s a f).resetting = s.resetting := rfl
@[simp] theorem modAdit_handoverQ (s : State) (a : Nat) (f : AditPort → AditPort) : (modAdit s a f).handoverQ = s.handoverQ := rfl
@[simp] theorem modAdit_handoverSeq (s : State) (a : Nat) (f : AditPort → AditPort) : (modAdit s a f).handoverSeq = s.handoverSeq := rfl
@[simp] theorem modAdit_offerDue (s : State) (a : Nat) (f : AditPort → AditPort) : (modAdit s a f).offerDue = s.offerDue := rfl
@[simp] theorem modAdit_nodeStrap (s : State) (a : Nat) (f : AditPort → AditPort) : (modAdit s a f).nodeStrap = s.nodeStrap := rfl
@[simp] theorem modAdit_i3cStrap (s : State) (a : Nat) (f : AditPort → AditPort) : (modAdit s a f).i3cStrap = s.i3cStrap := rfl
@[simp] theorem modAdit_held (s : State) (a : Nat) (f : AditPort → AditPort) : (modAdit s a f).held = s.held := rfl
@[simp] theorem modAdit_onDie (s : State) (a : Nat) (f : AditPort → AditPort) : (modAdit s a f).onDie = s.onDie := rfl
@[simp] theorem modAdit_outs (s : State) (a : Nat) (f : AditPort → AditPort) : (modAdit s a f).outs = s.outs := rfl
@[simp] theorem modAdit_freeCount (s : State) (a : Nat) (f : AditPort → AditPort) : (modAdit s a f).freeCount = s.freeCount := rfl
@[simp] theorem modAdit_uptime (s : State) (a : Nat) (f : AditPort → AditPort) : (modAdit s a f).uptime = s.uptime := rfl
@[simp] theorem modAdit_pending (s : State) (a : Nat) (f : AditPort → AditPort) : (modAdit s a f).pending = s.pending := rfl

end Sys2Proof.Machine
end

