-- ==== Sys2Proof/Laws/Ops.lean ====
section
/-! SUPPORT. What the shared operations do: objects, units of the instance, microcode bytes, and the meanings that need a unit. -/

namespace Sys2Proof.Machine

/-! ### Register files -/

theorem RegFile.get_put_same (d k v : Nat) (r : RegFile) : RegFile.get d k (RegFile.put k v r) = v := by
  induction r with
  | nil => simp [RegFile.put, RegFile.get]
  | cons p r ih =>
    obtain ⟨j, w⟩ := p
    simp only [RegFile.put]
    split
    · simp [RegFile.get]
    · split
      · simp [RegFile.get]
      · simp [RegFile.get, ih]; omega

theorem RegFile.get_put_other (d k v j : Nat) (r : RegFile) (h : j ≠ k) :
    RegFile.get d j (RegFile.put k v r) = RegFile.get d j r := by
  have h' : ¬ k = j := fun e => h e.symm
  induction r with
  | nil => simp [RegFile.put, RegFile.get, h']
  | cons p r ih =>
    obtain ⟨i, w⟩ := p
    simp only [RegFile.put]
    split
    · simp [RegFile.get, h']
    · split
      · rename_i e; subst e; simp [RegFile.get, h']
      · simp [RegFile.get, ih]

theorem RegFile.get_del_same (d k : Nat) (r : RegFile) : RegFile.get d k (RegFile.del k r) = d := by
  induction r with
  | nil => rfl
  | cons p r ih =>
    obtain ⟨i, w⟩ := p
    by_cases e : i = k <;> simp_all [RegFile.del, RegFile.get]

theorem RegFile.get_del_other (d k j : Nat) (r : RegFile) (h : j ≠ k) :
    RegFile.get d j (RegFile.del k r) = RegFile.get d j r := by
  induction r with
  | nil => rfl
  | cons p r ih =>
    obtain ⟨i, w⟩ := p
    simp only [RegFile.del] at ih
    by_cases e : i = k
    · have : ¬ i = j := by omega
      simp [RegFile.del, RegFile.get, e, ih]; omega
    · simp [RegFile.del, RegFile.get, e, ih]

/-- A value written under a key is what that key reads. -/
theorem RegFile.get_set_same (d k v : Nat) (r : RegFile) : RegFile.get d k (RegFile.set d k v r) = v := by
  unfold RegFile.set
  split
  · rename_i e; rw [RegFile.get_del_same, e]
  · exact RegFile.get_put_same ..

/-- A write leaves every other key alone. -/
theorem RegFile.get_set_other (d d' k v j : Nat) (r : RegFile) (h : j ≠ k) :
    RegFile.get d' j (RegFile.set d k v r) = RegFile.get d' j r := by
  unfold RegFile.set
  split
  · exact RegFile.get_del_other _ _ _ _ h
  · exact RegFile.get_put_other _ _ _ _ _ h

/-! ### Objects -/

@[simp] theorem odReset_odSet (s : State) (i sub v j sub' : Nat) : odReset (odSet s i sub v) j sub' = odReset s j sub' := rfl

/-- An object reads what was stored in it. -/
@[simp] theorem odGet_odSet_same (s : State) (i sub v : Nat) : odGet (odSet s i sub v) i sub = v :=
  RegFile.get_set_same ..

/-- A store leaves every other object alone. -/
theorem odGet_odSet_other (s : State) (i sub v j sub' : Nat) (h : odKey j sub' ≠ odKey i sub) :
    odGet (odSet s i sub v) j sub' = odGet s j sub' :=
  RegFile.get_set_other _ _ _ _ _ _ h

/-- Objects of the same value where the register file, the parameters and the straps are the same. -/
theorem odGet_congr {s t : State} (hp : t.params = s.params) (hn : t.nodeStrap = s.nodeStrap) (hi : t.i3cStrap = s.i3cStrap)
    (ho : t.od = s.od) (i sub : Nat) : odGet t i sub = odGet s i sub := by
  simp [odGet, odReset, objRow, hp, hn, hi, ho]

/-- Configuration in force where the file in force, the parameters and the straps are the same. -/
theorem cfg_congr {s t : State} (hp : t.params = s.params) (hn : t.nodeStrap = s.nodeStrap) (hi : t.i3cStrap = s.i3cStrap)
    (ho : t.inForce = s.inForce) (i sub : Nat) : cfg t i sub = cfg s i sub := by
  simp [cfg, odReset, objRow, hp, hn, hi, ho]

@[simp] theorem odGet_emit (s : State) (o : Output) (i sub : Nat) : odGet (emit s o) i sub = odGet s i sub := rfl
@[simp] theorem odGet_post (s : State) (c : Instr) (i sub : Nat) : odGet (post s c) i sub = odGet s i sub := rfl
@[simp] theorem odGet_postAll (s : State) (cs : List Instr) (i sub : Nat) : odGet (postAll s cs) i sub = odGet s i sub := rfl
@[simp] theorem odGet_useFree (s : State) (i sub : Nat) : odGet (useFree s) i sub = odGet s i sub := rfl
@[simp] theorem odGet_cfgSet (s : State) (j k v i sub : Nat) : odGet (cfgSet s j k v) i sub = odGet s i sub := rfl
@[simp] theorem odGet_modTap (s : State) (t : Nat) (f : Tap → Tap) (i sub : Nat) : odGet (modTap s t f) i sub = odGet s i sub := rfl
@[simp] theorem odGet_modQuern (s : State) (q : Nat) (f : Quern → Quern) (i sub : Nat) :
    odGet (modQuern s q f) i sub = odGet s i sub := rfl
@[simp] theorem odGet_modLat (s : State) (p : Nat) (f : LatPort → LatPort) (i sub : Nat) :
    odGet (modLat s p f) i sub = odGet s i sub := rfl
@[simp] theorem odGet_modAdit (s : State) (a : Nat) (f : AditPort → AditPort) (i sub : Nat) :
    odGet (modAdit s a f) i sub = odGet s i sub := rfl

/-! ### Units -/

theorem getD_modify_same {α : Type} (l : List α) (n : Nat) (f : α → α) (d : α) (h : n < l.length) :
    (l.modify n f).getD n d = f (l.getD n d) := by
  simp [List.getD_eq_getElem?_getD, h]

theorem getD_modify_other {α : Type} (l : List α) (n m : Nat) (f : α → α) (d : α) (h : n ≠ m) :
    (l.modify n f).getD m d = l.getD m d := by
  simp [List.getD_eq_getElem?_getD, h]

/-- A changed tap reads the change. -/
theorem tapAt_modTap_same (s : State) (t : Nat) (f : Tap → Tap) (h : t < s.taps.length) : tapAt (modTap s t f) t = f (tapAt s t) :=
  getD_modify_same _ _ _ _ h
/-- The other taps stay as they are. -/
theorem tapAt_modTap_other (s : State) (t u : Nat) (f : Tap → Tap) (h : t ≠ u) : tapAt (modTap s t f) u = tapAt s u :=
  getD_modify_other _ _ _ _ _ h
/-- A changed quern position reads the change. -/
theorem quernAt_modQuern_same (s : State) (q : Nat) (f : Quern → Quern) (h : q < s.querns.length) :
    quernAt (modQuern s q f) q = f (quernAt s q) := getD_modify_same _ _ _ _ h
/-- The other positions stay as they are. -/
theorem quernAt_modQuern_other (s : State) (q r : Nat) (f : Quern → Quern) (h : q ≠ r) :
    quernAt (modQuern s q f) r = quernAt s r := getD_modify_other _ _ _ _ _ h
/-- A changed lattice port reads the change. -/
theorem latAt_modLat_same (s : State) (p : Nat) (f : LatPort → LatPort) (h : p < s.lattice.length) :
    latAt (modLat s p f) p = f (latAt s p) := getD_modify_same _ _ _ _ h
/-- The other lattice ports stay as they are. -/
theorem latAt_modLat_other (s : State) (p r : Nat) (f : LatPort → LatPort) (h : p ≠ r) :
    latAt (modLat s p f) r = latAt s r := getD_modify_other _ _ _ _ _ h
/-- A changed adit port reads the change. -/
theorem aditAt_modAdit_same (s : State) (a : Nat) (f : AditPort → AditPort) (h : a < s.adits.length) :
    aditAt (modAdit s a f) a = f (aditAt s a) := getD_modify_same _ _ _ _ h
/-- The other adit ports stay as they are. -/
theorem aditAt_modAdit_other (s : State) (a r : Nat) (f : AditPort → AditPort) (h : a ≠ r) :
    aditAt (modAdit s a f) r = aditAt s r := getD_modify_other _ _ _ _ _ h

/-! ### Applying an operation for each element -/

/-- What an operation keeps for one element, it keeps for all. -/
theorem forAll_keeps {α : Type} (P : State → Prop) (l : List α) (s : State) (f : State → α → State)
    (hs : P s) (hf : ∀ s a, P s → P (f s a)) : P (forAll l s f) := by
  induction l generalizing s with
  | nil => exact hs
  | cons a l ih => exact ih _ (hf _ _ hs)

/-- What one application does not change, all do not change. -/
theorem forAll_same {α β : Type} (g : State → β) (l : List α) (s : State) (f : State → α → State)
    (hf : ∀ s a, g (f s a) = g s) : g (forAll l s f) = g s :=
  forAll_keeps (fun t => g t = g s) l s f rfl fun t a h => (hf t a).trans h

/-! ### Meanings that need a unit (R24) -/

/-- A meaning that needs a tap completes exactly where the instance has the tap. -/
theorem withTap_next (s : State) (t : Nat) (f : State → State) (h : t < s.params.taps) : withTap s t f = .next (f s) := by
  simp [withTap, h]
theorem withQuern_next (s : State) (q : Nat) (f : State → State) (h : q < s.params.positions) :
    withQuern s q f = .next (f s) := by simp [withQuern, h]
theorem withPlane_next (s : State) (k : Nat) (f : State → State) (h : k < s.params.planes) :
    withPlane s k f = .next (f s) := by simp [withPlane, h]
theorem withLat_next (s : State) (p : Nat) (f : State → State) (h : p < s.params.latticePorts) :
    withLat s p f = .next (f s) := by simp [withLat, h]
theorem withAdit_next (s : State) (a : Nat) (f : State → State) (h : a < s.params.aditPorts) :
    withAdit s a f = .next (f s) := by simp [withAdit, h]

/-! ### Microcode bytes (R406) -/

theorem Memory.wfFrom_mono {n m : Nat} {r : Memory} (h : m ≤ n) (w : Memory.wfFrom n r = true) : Memory.wfFrom m r = true := by
  cases r with
  | nil => rfl
  | cons p r => simp only [Memory.wfFrom, Bool.and_eq_true, decide_eq_true_eq] at w ⊢; exact ⟨⟨by omega, w.1.2⟩, w.2⟩

theorem Memory.read_below (a n : Nat) (r : Memory) (w : Memory.wfFrom n r = true) (h : a < n) : Memory.read a r = 0 := by
  induction r generalizing n with
  | nil => rfl
  | cons p r ih =>
    obtain ⟨k, v⟩ := p
    simp only [Memory.wfFrom, Bool.and_eq_true, decide_eq_true_eq] at w
    have : k ≠ a := by omega
    simp only [Memory.read, this, if_false]
    exact ih (k + 1) w.2 (by omega)

theorem Memory.write_wfFrom (a : Nat) (v : Byte) (n : Nat) (m : Memory) (hn : n ≤ a) (w : Memory.wfFrom n m = true) :
    Memory.wfFrom n (Memory.write a v m) = true := by
  induction m generalizing n with
  | nil =>
    simp only [Memory.write]
    split
    · rfl
    · rename_i h
      simp only [Memory.wfFrom, Bool.and_eq_true, decide_eq_true_eq, bne_iff_ne, ne_eq, and_true]
      exact ⟨hn, h⟩
  | cons p r ih =>
    obtain ⟨k, x⟩ := p
    have w' := w
    simp only [Memory.wfFrom, Bool.and_eq_true, decide_eq_true_eq] at w'
    simp only [Memory.write]
    split
    · by_cases h : v = 0
      · simpa [h] using w
      · simp only [h, if_false, Memory.wfFrom, Bool.and_eq_true, decide_eq_true_eq, bne_iff_ne, ne_eq, not_false_eq_true, and_true]
        exact ⟨hn, ⟨by omega, by simpa using w'.1.2⟩, w'.2⟩
    · split
      · rename_i e
        by_cases h : v = 0
        · simp only [h, if_true]; exact Memory.wfFrom_mono (by omega) w'.2
        · simp only [h, if_false, Memory.wfFrom, Bool.and_eq_true, decide_eq_true_eq, bne_iff_ne, ne_eq, not_false_eq_true, and_true]
          exact ⟨hn, by rw [e]; exact w'.2⟩
      · simp only [Memory.wfFrom, Bool.and_eq_true, decide_eq_true_eq]
        exact ⟨w'.1, ih _ (by omega) w'.2⟩

/-- A byte written keeps the canonical form. -/
theorem Memory.write_wf (a : Nat) (v : Byte) (m : Memory) (w : m.wf = true) : (Memory.write a v m).wf = true :=
  Memory.write_wfFrom a v 0 m (Nat.zero_le _) w

/-- Bytes written keep the canonical form. -/
theorem Memory.writeBytes_wf (a : Nat) (bs : List Byte) (m : Memory) (w : m.wf = true) : (Memory.writeBytes a bs m).wf = true := by
  induction bs generalizing a m with
  | nil => exact w
  | cons b bs ih => exact ih _ _ (Memory.write_wf _ _ _ w)

theorem Memory.filter_wfFrom (f : Nat × Byte → Bool) (n : Nat) (m : Memory) (w : Memory.wfFrom n m = true) :
    Memory.wfFrom n (m.filter f) = true := by
  induction m generalizing n with
  | nil => rfl
  | cons p r ih =>
    obtain ⟨k, x⟩ := p
    simp only [Memory.wfFrom, Bool.and_eq_true, decide_eq_true_eq] at w
    by_cases h : f (k, x) = true
    · simp only [List.filter_cons, h, if_true, Memory.wfFrom, Bool.and_eq_true, decide_eq_true_eq]; exact ⟨w.1, ih _ w.2⟩
    · simp only [List.filter_cons, h]; exact Memory.wfFrom_mono (by omega) (ih _ w.2)

/-- Bytes cleared keep the canonical form. -/
theorem Memory.clear_wf (lo hi : Nat) (m : Memory) (w : m.wf = true) : (Memory.clear lo hi m).wf = true :=
  Memory.filter_wfFrom _ 0 m w

/-- The memory of State.reset has the canonical form. -/
theorem reset_ucode_wf : State.reset.ucode.wf = true := rfl

end Sys2Proof.Machine
end

