-- ==== Sys2Proof/Laws/Dictionary.lean ====
section
/-! SUPPORT. Requests of the management paths: the keys of objects, the ranges of unit numbers, and what an accepted or refused write is. -/

namespace Sys2Proof.Machine

open Sys2Proof.Config (Params)
open Sys2Proof.Safety

/-! ### Keys and unit ranges -/

/-- Objects with subindices below 256 have keys of their own. -/
theorem odKey_ne {i sub j sub' : Nat} (h : sub < 256) (h' : sub' < 256) (hne : (i, sub) ≠ (j, sub')) : odKey i sub ≠ odKey j sub' := by
  intro e
  apply hne
  unfold odKey at e
  have h1 : i = j := by omega
  subst h1
  simp only [Prod.mk.injEq, true_and]
  omega

/-- A store in an object leaves every other one alone. -/
theorem odGet_odSet_ne (s : State) (i sub v j sub' : Nat) (h : sub < 256) (h' : sub' < 256) (hne : (j, sub') ≠ (i, sub)) :
    odGet (odSet s i sub v) j sub' = odGet s j sub' :=
  odGet_odSet_other _ _ _ _ _ _ (odKey_ne h' h hne)

/-- A store in an object leaves the objects of another index alone. -/
theorem odGet_odSet_index (s : State) (i sub v j sub' : Nat) (hne : j ≠ i) (h : sub < 256) (h' : sub' < 256) :
    odGet (odSet s i sub v) j sub' = odGet s j sub' :=
  odGet_odSet_ne _ _ _ _ _ _ h h' (by intro e; exact hne (congrArg Prod.fst e))
/-- A store in an object leaves the other subindices of its index alone. -/
theorem odGet_odSet_sub (s : State) (i sub v sub' : Nat) (hne : sub' ≠ sub) (h : sub < 256) (h' : sub' < 256) :
    odGet (odSet s i sub v) i sub' = odGet s i sub' :=
  odGet_odSet_ne _ _ _ _ _ _ h h' (by intro e; exact hne (congrArg Prod.snd e))

/-- The unit numbers of an instance in the ranges of R24. -/
structure Bounds (p : Params) : Prop where
  taps : p.taps ≤ 128
  planes : p.planes ≤ 8
  positions : p.positions ≤ 16
  querns : p.querns ≤ 18
  lattice : p.latticePorts ≤ 64
  adits : p.aditPorts ≤ 8

theorem bounds_of_supported {p : Params} (h : p.supported = true) : Bounds p := by
  simp only [Params.supported, Bool.and_eq_true, Bool.or_eq_true, decide_eq_true_eq] at h
  obtain ⟨⟨⟨⟨⟨⟨h1, h2⟩, h3⟩, h4⟩, h5⟩, h6⟩, h7⟩ := h
  have hp : p.planes ≤ 8 := by omega
  have hpos : p.positions ≤ 16 := by
    unfold Params.positions Params.leafQuerns Params.planeQuerns
    by_cases hz : p.taps = 0
    · rw [if_pos hz] at h4
      simp only [Bool.and_eq_true, decide_eq_true_eq] at h4
      rw [if_neg (by omega)]; omega
    · rw [if_pos (by omega), if_pos (by omega)]; omega
  exact ⟨h1, hp, hpos, by unfold Params.querns; omega, h6, h7⟩

/-! ### Requests -/

/-- A write that passes every check of R438 and that the object's rule accepts. -/
theorem serveWrite_ok {s t : State} {p : Path} {i sub : Nat} {data : List Byte} {img : Option CtxImage} (hc : writeCheck s p i sub data = 0)
    (ht : objectRule (startFor (cnt s 0x7001 0x02) i) p i sub data img = (t, 0)) :
    serveWrite s p i sub data img = emit t (.odResponse p 0 []) := by
  simp [serveWrite, odWrite, hc, ht, refused, refusalRecord]

/-- A write that a check of R438 refuses, but for a path that is not enabled. -/
theorem serveWrite_refused {s : State} {p : Path} {i sub n : Nat} {data : List Byte} {img : Option CtxImage}
    (hc : writeCheck s p i sub data = n) (h0 : n ≠ 0) (hA : n ≠ 0x0A) :
    serveWrite s p i sub data img = emit (refused (refusalRecord (cnt s 0x7001 0x02) p i sub n) n) (.odResponse p n []) := by
  simp [serveWrite, odWrite, hc, h0, hA]

/-- The checks of R438 that a write passes. -/
theorem writeCheck_ok {s : State} {p : Path} {i sub : Nat} {data : List Byte} {r : ObjRow} (hs : Serves s p)
    (hrow : accessRow s i sub = some r) (ha : r.acc = .rw ∨ r.acc = .rwi ∨ r.acc = .wo) (hl : data.length = r.ty.bytes)
    (hr : inRange s r i sub (bytesToNat data) = true) (hw : writable s r i sub = true) : writeCheck s p i sub data = 0 := by
  have ha' : (r.acc == .ro || r.acc == .const) = false := by rcases ha with h | h | h <;> rw [h] <;> rfl
  simp only [writeCheck, hs.enabled, hrow, ha', hl, hs.lock, hr, hw]
  simp

/-- A row command while the engine is free is its write. -/
theorem rowWrite_free {s : State} (p : Path) (i sub v len : Nat) (h1 : s.resetting = false) (h2 : s.swapping = false) :
    rowWrite p i sub v len s = serveWrite s p i sub (natToBytes v len) none := by
  simp [rowWrite, requestWrite, onEngine, h1, h2]

theorem natToBytes_length (v len : Nat) : (natToBytes v len).length = len := by
  induction len generalizing v with
  | zero => rfl
  | succ n ih => simp [natToBytes, ih]

/-- Bytes of a number that fits them give it back. -/
theorem bytesToNat_natToBytes (v len : Nat) (h : v < 256 ^ len) : bytesToNat (natToBytes v len) = v := by
  induction len generalizing v with
  | zero => simp [natToBytes, bytesToNat]; omega
  | succ n ih =>
    rw [Nat.pow_succ] at h
    simp only [natToBytes, bytesToNat, BitVec.toNat_ofNat]
    rw [ih (v / 256) (by omega)]; omega

/-- A row command that every check of R438 passes and the object's rule accepts. -/
theorem row_accepted {c : Instr} {s t : State} {p : Path} {i sub v len : Nat} (he : exec c s = .next (rowWrite p i sub v len s))
    (hs : Serves s p) (hc : writeCheck s p i sub (natToBytes v len) = 0)
    (ht : objectRule (ready s i) p i sub (natToBytes v len) none = (t, 0)) : acceptedAs c s p t := by
  unfold acceptedAs
  rw [he, rowWrite_free p i sub v len hs.notResetting hs.notSwapping]
  exact congrArg _ (serveWrite_ok hc ht)

/-- A row command that every check passes and the object's rule refuses with a STATUS that leaves no record. -/
theorem row_declined {c : Instr} {s t : State} {p : Path} {i sub v len n : Nat} (he : exec c s = .next (rowWrite p i sub v len s))
    (hs : Serves s p) (hc : writeCheck s p i sub (natToBytes v len) = 0) (h7 : n ≠ 7) (h8 : n ≠ 8)
    (ht : objectRule (ready s i) p i sub (natToBytes v len) none = (t, n)) : declinedAs c s p n t := by
  unfold declinedAs
  unfold ready at ht
  rw [he, rowWrite_free p i sub v len hs.notResetting hs.notSwapping]
  simp [serveWrite, odWrite, hc, ht, refusalRecord, h7, h8]

/-- A row command that every check passes and the object's rule refuses with CONFLICT, which leaves E_ACCESS_CONFLICT. -/
theorem row_conflict {c : Instr} {s t : State} {p : Path} {i sub v len : Nat} (he : exec c s = .next (rowWrite p i sub v len s))
    (hs : Serves s p) (hc : writeCheck s p i sub (natToBytes v len) = 0) (hi : i ≠ 0x1100)
    (ht : objectRule (ready s i) p i sub (natToBytes v len) none = (t, 8)) :
    declinedAs c s p 8 (accessConflict t (pathNo p) i sub) := by
  unfold declinedAs
  unfold ready at ht
  rw [he, rowWrite_free p i sub v len hs.notResetting hs.notSwapping]
  simp [serveWrite, odWrite, hc, ht, refusalRecord, hi]

/-! ### Rows of fixed objects -/

theorem inIdx_false {i b n : Nat} (h : i < b ∨ b + n ≤ i) : inIdx i b n = false := by
  simp only [inIdx, Bool.and_eq_false_iff, decide_eq_false_iff_not]; omega

theorem inIdx_true {i b n : Nat} (h : b ≤ i ∧ i < b + n) : inIdx i b n = true := by
  simp [inIdx, h.1, h.2]

/-! ### The rows of the units -/

theorem rowsOf_quern {p : Params} (a c : Nat) {k : Nat} (h : Bounds p) (hk : k < p.querns) : rowsOf p a c (0x2100 + k) = rows2100 := by
  obtain ⟨b1, b2, b3, b4, b5, b6⟩ := h
  unfold rowsOf
  repeat rw [if_neg (by omega)]
  rw [inIdx_true (by omega)]; rfl

theorem rowsOf_plane {p : Params} (a c : Nat) {k : Nat} (h : Bounds p) (hk : k < p.planes) : rowsOf p a c (0x2210 + k) = rows2210 := by
  obtain ⟨b1, b2, b3, b4, b5, b6⟩ := h
  unfold rowsOf
  repeat first | rw [if_neg (by omega)] | rw [inIdx_false (by omega), if_neg (by decide)]
  rw [inIdx_true (by omega)]; rfl

theorem rowsOf_quernConfig {p : Params} (a c : Nat) {k : Nat} (h : Bounds p) (hk : k < p.querns) : rowsOf p a c (0x2240 + k) = rows2240 := by
  obtain ⟨b1, b2, b3, b4, b5, b6⟩ := h
  unfold rowsOf
  repeat first | rw [if_neg (by omega)] | rw [inIdx_false (by omega), if_neg (by decide)]
  rw [inIdx_true (by omega)]; rfl

theorem rowsOf_tap {p : Params} (a c : Nat) {k : Nat} (h : Bounds p) (hk : k < p.taps) : rowsOf p a c (0x3000 + k) = rows3000 := by
  obtain ⟨b1, b2, b3, b4, b5, b6⟩ := h
  unfold rowsOf
  repeat first | rw [if_neg (by omega)] | rw [inIdx_false (by omega), if_neg (by decide)]
  rw [inIdx_true (by omega)]; rfl

theorem rowsOf_lattice {p : Params} (a c : Nat) {k : Nat} (h : Bounds p) (hk : k < p.latticePorts) : rowsOf p a c (0x4000 + k) = rows4000 := by
  obtain ⟨b1, b2, b3, b4, b5, b6⟩ := h
  unfold rowsOf
  repeat first | rw [if_neg (by omega)] | rw [inIdx_false (by omega), if_neg (by decide)]
  rw [inIdx_true (by omega)]; rfl

theorem rowsOf_adit {p : Params} (a c : Nat) {k : Nat} (h : Bounds p) (hk : k < p.aditPorts) : rowsOf p a c (0x4100 + k) = rows4100 := by
  obtain ⟨b1, b2, b3, b4, b5, b6⟩ := h
  unfold rowsOf
  repeat first | rw [if_neg (by omega)] | rw [inIdx_false (by omega), if_neg (by decide)]
  rw [inIdx_true (by omega)]; rfl

end Sys2Proof.Machine
end

