-- ==== Sys2Proof/Laws/Requests.lean ====
section
/-! SUPPORT. The state in which the rule of an object runs: what the start of a clock domain and the count of a request change. -/

namespace Sys2Proof.Machine
open Sys2Proof.Safety

/-- Starting the common domain changes the power state alone. -/
theorem startCommon_power (s : State) : startCommon s = { s with power := (startCommon s).power } := by
  unfold startCommon; split <;> rfl
theorem withPower_trans {s t u : State} (h : t = { s with power := t.power }) (h' : u = { t with power := u.power }) :
    u = { s with power := u.power } := h'.trans (congrArg (fun x : State => { x with power := u.power }) h)
theorem startPlane_power (s : State) (k : Nat) : startPlane s k = { s with power := (startPlane s k).power } := by
  apply withPower_trans (startCommon_power s)
  unfold startPlane; simp only []; split <;> rfl
theorem startPlanes_power (l : List Nat) (s : State) : forAll l s startPlane = { s with power := (forAll l s startPlane).power } :=
  forAll_keeps (fun t => t = { s with power := t.power }) l s startPlane rfl fun _ k h => withPower_trans h (startPlane_power _ k)
theorem startFor_power (s : State) (i : Nat) : startFor s i = { s with power := (startFor s i).power } := by
  unfold startFor; simp only []
  repeat' split
  all_goals first | rfl | exact startCommon_power _ | exact startPlane_power _ _ | exact startPlanes_power _ _
/-- An accepted request is counted, and a clock domain may start. -/
theorem ready_eq (s : State) (i : Nat) : ready s i = { cnt s 0x7001 0x02 with power := (ready s i).power } := startFor_power _ i

@[simp] theorem ready_params (s : State) (i : Nat) : (ready s i).params = s.params := by rw [ready_eq]; rfl
@[simp] theorem ready_inForce (s : State) (i : Nat) : (ready s i).inForce = s.inForce := by rw [ready_eq]; rfl
@[simp] theorem ready_taps (s : State) (i : Nat) : (ready s i).taps = s.taps := by rw [ready_eq]; rfl
@[simp] theorem ready_querns (s : State) (i : Nat) : (ready s i).querns = s.querns := by rw [ready_eq]; rfl
@[simp] theorem ready_fencedQuerns (s : State) (i : Nat) : (ready s i).fencedQuerns = s.fencedQuerns := by rw [ready_eq]; rfl
@[simp] theorem ready_flags (s : State) (i : Nat) : (ready s i).flags = s.flags := by rw [ready_eq]; rfl
@[simp] theorem ready_blanking (s : State) (i : Nat) : (ready s i).blanking = s.blanking := by rw [ready_eq]; rfl
@[simp] theorem ready_lattice (s : State) (i : Nat) : (ready s i).lattice = s.lattice := by rw [ready_eq]; rfl
@[simp] theorem ready_adits (s : State) (i : Nat) : (ready s i).adits = s.adits := by rw [ready_eq]; rfl
@[simp] theorem ready_sump (s : State) (i : Nat) : (ready s i).sump = s.sump := by rw [ready_eq]; rfl
@[simp] theorem ready_gtc (s : State) (i : Nat) : (ready s i).gtc = s.gtc := by rw [ready_eq]; rfl
@[simp] theorem ready_launch (s : State) (i : Nat) : (ready s i).launch = s.launch := by rw [ready_eq]; rfl
@[simp] theorem ready_gallery (s : State) (i : Nat) : (ready s i).gallery = s.gallery := by rw [ready_eq]; rfl
@[simp] theorem ready_paths (s : State) (i : Nat) : (ready s i).paths = s.paths := by rw [ready_eq]; rfl
@[simp] theorem ready_lock (s : State) (i : Nat) : (ready s i).lock = s.lock := by rw [ready_eq]; rfl
@[simp] theorem ready_inject (s : State) (i : Nat) : (ready s i).inject = s.inject := by rw [ready_eq]; rfl
@[simp] theorem ready_testAcc (s : State) (i : Nat) : (ready s i).testAcc = s.testAcc := by rw [ready_eq]; rfl
@[simp] theorem ready_setup (s : State) (i : Nat) : (ready s i).setup = s.setup := by rw [ready_eq]; rfl
@[simp] theorem ready_ucode (s : State) (i : Nat) : (ready s i).ucode = s.ucode := by rw [ready_eq]; rfl
@[simp] theorem ready_swapping (s : State) (i : Nat) : (ready s i).swapping = s.swapping := by rw [ready_eq]; rfl
@[simp] theorem ready_swapDue (s : State) (i : Nat) : (ready s i).swapDue = s.swapDue := by rw [ready_eq]; rfl
@[simp] theorem ready_resetting (s : State) (i : Nat) : (ready s i).resetting = s.resetting := by rw [ready_eq]; rfl
@[simp] theorem ready_handoverQ (s : State) (i : Nat) : (ready s i).handoverQ = s.handoverQ := by rw [ready_eq]; rfl
@[simp] theorem ready_handoverSeq (s : State) (i : Nat) : (ready s i).handoverSeq = s.handoverSeq := by rw [ready_eq]; rfl
@[simp] theorem ready_nodeStrap (s : State) (i : Nat) : (ready s i).nodeStrap = s.nodeStrap := by rw [ready_eq]; rfl
@[simp] theorem ready_i3cStrap (s : State) (i : Nat) : (ready s i).i3cStrap = s.i3cStrap := by rw [ready_eq]; rfl
@[simp] theorem ready_held (s : State) (i : Nat) : (ready s i).held = s.held := by rw [ready_eq]; rfl
@[simp] theorem ready_onDie (s : State) (i : Nat) : (ready s i).onDie = s.onDie := by rw [ready_eq]; rfl
@[simp] theorem ready_outs (s : State) (i : Nat) : (ready s i).outs = s.outs := by rw [ready_eq]; rfl
@[simp] theorem ready_freeCount (s : State) (i : Nat) : (ready s i).freeCount = s.freeCount := by rw [ready_eq]; rfl
@[simp] theorem ready_uptime (s : State) (i : Nat) : (ready s i).uptime = s.uptime := by rw [ready_eq]; rfl
@[simp] theorem ready_offerDue (s : State) (i : Nat) : (ready s i).offerDue = s.offerDue := by rw [ready_eq]; rfl
@[simp] theorem ready_pending (s : State) (i : Nat) : (ready s i).pending = s.pending := by rw [ready_eq]; rfl
@[simp] theorem ready_od (s : State) (i : Nat) : (ready s i).od = (cnt s 0x7001 0x02).od := by rw [ready_eq]
/-- Only the count of accepted requests changes among the objects. -/
theorem odGet_ready_count (s : State) (i j b : Nat) : odGet (ready s i) j b = odGet (cnt s 0x7001 0x02) j b :=
  odGet_congr (by simp; rfl) (by simp; rfl) (by simp; rfl) (by simp) j b
theorem odGet_ready (s : State) (i j b : Nat) (hb : b < 256) (hj : j ≠ 0x7001) : odGet (ready s i) j b = odGet s j b := by
  rw [odGet_ready_count]; exact odGet_odSet_index _ _ _ _ _ _ hj (by decide) hb
@[simp] theorem cfg_ready (s : State) (i j b : Nat) : cfg (ready s i) j b = cfg s j b := cfg_congr (by simp) (by simp) (by simp) (by simp) j b
@[simp] theorem tapAt_ready (s : State) (i t : Nat) : tapAt (ready s i) t = tapAt s t := by simp [tapAt]
@[simp] theorem quernAt_ready (s : State) (i q : Nat) : quernAt (ready s i) q = quernAt s q := by simp [quernAt]
@[simp] theorem latAt_ready (s : State) (i p : Nat) : latAt (ready s i) p = latAt s p := by simp [latAt]
@[simp] theorem aditAt_ready (s : State) (i a : Nat) : aditAt (ready s i) a = aditAt s a := by simp [aditAt]

end Sys2Proof.Machine
end

