-- ==== Sys2Proof/Tests/Slice0.lean ====
section
/-! SUPPORT. Tests: examples of the spec, the WellFormed smoke, and for each statement with hypotheses a witness: concrete states and
operands that meet the hypotheses of each clause. The states are the small instance below with a few fields set. -/

open Sys2Proof Sys2Proof.Machine Sys2Proof.Safety

namespace Sys2Proof.Tests

set_option Elab.async false

/-! ### States -/

/-- A small instance: 16 taps, leaf quern 0, plane querns 1 and 2, spare leaf quern 3, two lattice ports, one adit port. -/
def small : Config.Params :=
  { taps := 16, planes := 2, spares := 1, poolQuerns := 0, latticePorts := 2, aditPorts := 1
    galleryPackage := false, handover := true, coreTiles := 8, hostPart := 1, stepping := 1, grade := 0
    classBase := 0x0111011700000000, serial := 0, bootVersion := 1 }

/-- The small instance after reset, its register port holding the lock. -/
def base : State := { State.powerOn small 0 8 with lock := { holder := some .regPort } }

/-- The state with objects set. -/
def withOd (s : State) (l : List (Nat × Nat × Nat)) : State := l.foldl (fun s x => odSet s x.1 x.2.1 x.2.2) s
/-- The state with configuration in force. -/
def withCfg (s : State) (l : List (Nat × Nat × Nat)) : State := l.foldl (fun s x => cfgSet s x.1 x.2.1 x.2.2) s

/-- Plane 0 in force with its root at quern 1 and two taps present at the leaf quern. -/
def treeCfg : List (Nat × Nat × Nat) :=
  [(0x2210, 1, 1), (0x2210, 2, 1), (0x2210, 3, 1), (0x2210, 6, 2),
   (0x2240, 3, 2 ^ 24), (0x2240, 0x10, 0x1000000000000000), (0x2240, 0x11, 0x1010000000000001),
   (0x2240, 0x20, 2 ^ 32), (0x2240, 0x21, 2 ^ 32 + 1),
   (0x2241, 1, 0), (0x2241, 2, 0x400), (0x2241, 3, 2 ^ 24), (0x2241, 0x10, 0x4000000001000000), (0x2241, 0x20, 2 * 2 ^ 32)]

/-- Plane 1 in force: fed by the leaf quern and lattice port 1, sending to lattice port 0. -/
def planeOne : List (Nat × Nat × Nat) :=
  [(0x2211, 1, 1), (0x2211, 4, 0x100), (0x2211, 6, 4), (0x2242, 1, 1), (0x2242, 2, 0x100), (0x2242, 3, 2 * 2 ^ 24),
   (0x2242, 0x10, 0x4000000001000000), (0x2242, 0x20, 2 * 2 ^ 32), (0x2242, 0x18, 0x2010000001000002), (0x2242, 0x28, 2 * 2 ^ 32 + 2)]

/-- The small instance with plane 0 in force, every clock on, taps 0 and 1 ACTIVE with a memory region. -/
def live : State :=
  let s := withCfg base treeCfg
  let s := withOd s [(0x2210, 9, 1), (0x2210, 8, 1), (0x3000, 8, 0x1000), (0x3001, 8, 0x2000),
    (0x3000, 0x10, 0), (0x3001, 0x10, 0), (0x3100, 2, 0x100000), (0x3100, 3, 0x1F)]
  { s with
    taps := [{ state := .active }, { state := .active, contrib := 1 }] ++ List.replicate 14 {}
    power := { s.power with common := true, planes := 3 } }

/-- `live` with objects set. -/
def lv (l : List (Nat × Nat × Nat)) : State := withOd live l
/-- `live` with plane 1 in force too. -/
def two (l : List (Nat × Nat × Nat)) : State := withOd (withCfg live planeOne) l

/-- A descriptor of contributor total 2 from its fields. -/
def desc (op func disc fmtIn fmtOut bucket step count flags src dst contrib w6 : Nat) : Desc :=
  ⟨u64 (op * 2 ^ 56 + func * 2 ^ 52 + disc * 2 ^ 48 + fmtIn * 2 ^ 44 + fmtOut * 2 ^ 40 + bucket), u64 step, u64 (count * 2 ^ 32 + flags),
   u64 src, u64 dst, u64 (2 * 2 ^ 40 + contrib * 2 ^ 16), u64 w6, 0⟩

/-- ALLREDUCE of MAX over two FP32 elements. -/
def dMax : Desc := desc 2 4 0 0 0 1 1 2 0 0x4000 0x5000 0 0
/-- ALLREDUCE of SUM: SCALED, and SCALED with ANCHOR_AUTO. -/
def dScaled : Desc := desc 2 1 5 0 5 1 1 2 0 0x4000 0x5000 0 0
def dAuto : Desc := desc 2 1 5 0 5 1 1 2 8 0x4000 0x5000 0 0
/-- ALLREDUCE of SUM in EXACT64. -/
def dExact : Desc := desc 2 1 1 0 0 1 1 2 0 0x4000 0x5000 0 0
/-- ALLREDUCE of MAX from one and from two drained tiles. -/
def dDrain : Desc := desc 2 4 0 0 0 1 1 2 0x10 0x0100 0x5000 0 0
def dDrain2 : Desc := desc 2 4 0 0 0 1 1 16385 0x10 0x0200 0x8000 0 0
/-- BARRIER, with and without ORDER_CQ, and STEP_BARRIER. -/
def dBarrier (flags : Nat) : Desc := desc 6 0 0 0 0 2 1 0 flags 0 0 0 0
def dStep : Desc := desc 7 0 0 0 0 3 1 0 0 0 0 0 0

/-- A queue entry. -/
def entry (d : Desc) (p : Phase := .queued) (i : Nat := 0) : Flight := { id := i, desc := d, phase := p }
/-- A running queue entry on plane 0. -/
def running (d : Desc) : Flight := { entry d .running with planes := [0], limits := (1000, 2000), epochs := [(0, 1)] }
/-- `live` with entries in the queue of tap 0. -/
def q0 (l : List Flight) : State := modTap live 0 fun x => { x with queue := l, nextId := 5 }
/-- A failure. -/
def someFail : FailInfo := ⟨9, 0, 0, 0, 1, 0, 0, 0⟩
/-- A message of bucket 1, step 1, plane 0. -/
def msg (code : MsgCode) (i : Nat := 0) : Message :=
  { code := code, plane := 0, bucket := 1, step := 1, span := ⟨i, 0⟩, agree := some (dMax.agreement 0) }

/-! ### How a witness is shown -/

/-- The checks of `Serves`. -/
def served (p : Path) (s : State) : Bool :=
  s.params.supported && !s.resetting && !s.swapping && pathOn s p && s.lock.holder == some p

theorem serves_of {p : Path} {s : State} (h : served p s = true) : Serves s p := by
  simp only [served, Bool.and_eq_true, Bool.not_eq_true', beq_iff_eq] at h
  exact ⟨⟨h.1.1.1.1, h.1.1.1.2, h.1.1.2, h.1.2⟩, h.2⟩

theorem serves_all {p : Path} {l : List State} (h : l.all (served p) = true) : ∀ s ∈ l, Serves s p :=
  fun s hs => serves_of (List.all_eq_true.mp h s hs)

theorem reaches_of {p : Path} {s : State} (h : (s.params.supported && !s.resetting && !s.swapping && pathOn s p) = true) :
    Reaches s p := by
  simp only [Bool.and_eq_true, Bool.not_eq_true'] at h
  exact ⟨h.1.1.1, h.1.1.2, h.1.2, h.2⟩

/-- The checks of `Shaped`. -/
def shaped (s : State) : Bool :=
  s.params.supported && s.taps.length == s.params.taps && s.querns.length == s.params.positions &&
  s.lattice.length == s.params.latticePorts && s.adits.length == s.params.aditPorts && s.ucode.wf && s.sump.recs.length ≤ 1024

theorem shaped_of {s : State} (h : shaped s = true) : Shaped s := by
  simp only [shaped, Bool.and_eq_true, beq_iff_eq, decide_eq_true_eq] at h
  exact ⟨h.1.1.1.1.1.1, h.1.1.1.1.1.2, h.1.1.1.1.2, h.1.1.1.2, h.1.1.2, h.1.2, h.2⟩

theorem shaped_all {l : List State} (h : l.all shaped = true) : ∀ s ∈ l, Shaped s :=
  fun s hs => shaped_of (List.all_eq_true.mp h s hs)

/-- What a command leaves, for a test of one step. -/
def after (c : Instr) (s : State) : State :=
  match exec c s with
  | .next t => t
  | _ => s

/-! ### Examples of the spec -/

/-- R48: EXACT64 at anchor 3, contributions 6.0, 2.5 × 2^-36, -1.0 and -2.5 × 2^-36. -/
theorem test_quantise_example :
    quantise false 3 .rne (.fin ⟨false, 6, 0⟩) = 6 * 2 ^ 36 ∧ quantise false 3 .rne (.fin ⟨false, 5, -37⟩) = 2 ∧
    quantise false 3 .rne (.fin ⟨true, 1, 0⟩) = -2 ^ 36 ∧ quantise false 3 .rne (.fin ⟨true, 5, -37⟩) = -2 := by decide +kernel
/-- R48: 0.625 of a grid step by SR, for two mixer values. -/
theorem test_quantise_sr_example :
    quantise false 3 (.sr 0x7B3104C2) (.fin ⟨false, 5, -39⟩) = 1 ∧ quantise false 3 (.sr 0x1F000000) (.fin ⟨false, 5, -39⟩) = 0 := by
  decide +kernel
/-- R53: both infinities give the default NaN of FP32. -/
theorem test_nan_pattern : nanPattern 0 = 0x7FC00000 ∧ nanPattern 13 = 0x8000000000000000 := by decide +kernel
/-- R58: an MXFP8_E4M3 block whose largest magnitude is 300.0. -/
theorem test_mx_example :
    mxScale tyE4m3 [.fin ⟨false, 75, 2⟩] = (0x7F, false) ∧ mxElem 5 .rne false 0x7F (.fin ⟨false, 75, 2⟩) = 0x79 ∧
    mxElem 5 (.sr 0xA0000000) false 0x7F (.fin ⟨false, 75, 2⟩) = 0x7A := by decide +kernel
/-- R72: chip number 7000 and its core 5 under the reference fill counts. -/
theorem test_std_index :
    stdIndex 7000 0 (fun j => [7, 6, 6, 2, 3, 0].getD j 0) (fun j => [128, 60, 60, 4, 8, 0].getD j 0) 5 = 0x0F1400 ∧
    stdIndex 7000 5 (fun j => [7, 6, 6, 2, 3, 0].getD j 0) (fun j => [128, 60, 60, 4, 8, 0].getD j 0) 5 = 0x0F1405 := by decide +kernel
/-- R119: 1 000 000 elements on 8 planes. -/
theorem test_chunk_example :
    chunkOf (desc 2 1 1 0 0 1 1 1000000 0 0 0 0 0) 8 0 = (0, 125056) ∧
    chunkOf (desc 2 1 1 0 0 1 1 1000000 0 0 0 0 0) 8 7 = (875392, 1000000) := by decide +kernel
/-- R439: OUT_RND 3 on an EXACT64 bucket is refused with CAUSE 0x0024. -/
theorem test_refused_example :
    startCheck live 0 (entry { dExact with w0 := dExact.w0 ||| 0x3000000000 }) = .refuse 0x0008 0x0024 := by decide +kernel
/-- R240: a child 37 ns ahead over a fibre with ASYM -20 ns. -/
theorem test_time_example :
    sampleOf { kind := 2, state := 2, seq := 0, tTx := 1000000251983, tRx := 1000000249983, tEcho := 1000000000000 } (-20000)
      (1000000502020 * 65536) = { theta := 37000, mean := 250010000, rt := 500020000, bound := 0 } := by decide +kernel
/-- R325: the digest of one U32 value and of a sinter integer. -/
theorem test_eddy_example :
    eddy 0 [1] = [0x1A3C5E7F9B2D4C61, 0x0E91D7A436F82B5D, 0x17C48B02E95FA3D9, 0x05B6F3E81D4A9C27] ∧
    eddy 0 [2] = [0x1478BCFF365A98C3, 0x1D23AF486DF056BA, 0x0F891605D2BF47B3, 0x0B6DE7D03A95384E] ∧
    (eddy 0 [eddyInt (-1)]).head? = some 0x05C3A18064D2B39E := by decide +kernel
/-- R268: pools of 972 flits with one plane on the port, and 121 and 129 with eight. -/
theorem test_pool_example :
    poolSize (withCfg base planeOne) 0 0 1 = 972 ∧ poolSize (withCfg base planeOne) 0 1 1 = 972 := by decide +kernel
/-- R402: Q_IN_1 and Q_IN_OCC_1 of chip 17. -/
theorem test_input_example :
    inCfg (fun _ sub => if sub = 0x11 then 0x2110000007000880 else 0x0000008000000880) 1 1 =
      { input := 1, src := .lattice 17, beyondAdit := false, span := ⟨0x880, 7⟩, occ := 128, rank := 2176 } := by decide +kernel
/-- R393: the routing header of the calibration example. -/
theorem test_in_band_example :
    ibOf ([0x0200100400000000, 0x00010A0500000000].flatMap (fun w => natToBytes w 8)
      ++ [0x00, 0x3C, 0x3C, 0x41] ++ List.replicate 28 0xFF ++ [0x0200003160410100, 0x0004000000000000].flatMap (fun w => natToBytes w 8)
      ++ [0xE0, 0xB1, 0xFF, 0xFF]) =
    { rmode := 2, hops := 0, hopLimit := 16, pathLen := 4, destNode := 0, srcNode := 0x00010A05, response := false
      fwdPath := [0, 0x3C, 0x3C, 0x41] ++ List.replicate 12 0xFF, retPath := List.replicate 16 0xFF
      request := [0x0200003160410100, 0x0004000000000000].flatMap (fun w => natToBytes w 8) ++ [0xE0, 0xB1, 0xFF, 0xFF] } := by
  decide +kernel
/-- R258: the check value of CRC-64/ECMA-182. -/
theorem test_crc_check : crc64 [0x31, 0x32, 0x33, 0x34, 0x35, 0x36, 0x37, 0x38, 0x39] = 0x6C40DF5F0B497347 := by decide +kernel
/-- R26: a Volxia numbers its querns 0 to 17, a licensee instance with 2 leaf and 2 plane querns 0 to 5. -/
theorem test_quern_numbers :
    Config.volxia.leafQuerns = 8 ∧ Config.volxia.positions = 16 ∧ Config.volxia.querns = 18 ∧
    { small with taps := 32, spares := 2 }.positions = 4 ∧ { small with taps := 32, spares := 2 }.querns = 6 := by decide +kernel

/-! ### Steps -/

/-- A step runs the command in front; a SET and a CLEAR change the master and the mirror. -/
theorem test_flag_set : (tapAt (after (.flagSet 0 4095) live) 1).mirror.getLsbD 4095 = true ∧
    (after (.flagClear 0 4095) (after (.flagSet 0 4095) live)).flags = 0 := by decide +kernel
/-- A CLAIM returns the old value and leaves 0. -/
theorem test_claim : (after (.claim 0 7 1) (flagOp live 7 true)).outs = [.windowData 0 1] ∧
    (after (.claim 0 7 1) (flagOp live 7 true)).flags = 0 := by decide +kernel
/-- The last arrival of a group releases its line and blanks it. -/
theorem test_sluice_release :
    (after (.sluiceArrive 1 1) (after (.sluiceArrive 0 1) (lv [(0x3000, 3, 1), (0x3001, 3, 1)]))).blanking = 1 := by decide +kernel
/-- A post is accepted, and refused with BUSY where the queue is full. -/
theorem test_post : (tapAt (after (.descPost 0 (.line dMax)) live) 0).last = 1 ∧
    (tapAt (after (.descPost 0 (.line dMax)) (q0 (List.replicate 64 (entry dMax)))) 0).last = 2 := by decide +kernel
/-- A tap without an instance to hold it is no command of the instance. -/
theorem test_absent_tap : (Instr.descStart 16).wellFormed small = false := by decide
/-- No row of the table has bits, so no word spells a command. -/
theorem test_no_words (n w : Nat) : decodeTableWord n w = none := rfl

/-! ### WellFormed: a term refused for each check, and its neighbour that passes -/

theorem test_wf_units :
    (Instr.descStart 15).wellFormed small = true ∧ (Instr.descStart 16).wellFormed small = false ∧
    (Instr.pauseExpiry 2 0).wellFormed small = true ∧ (Instr.pauseExpiry 3 0).wellFormed small = false ∧
    (Instr.planeDrained 1).wellFormed small = true ∧ (Instr.planeDrained 2).wellFormed small = false ∧
    (Instr.flitTx 1).wellFormed small = true ∧ (Instr.flitTx 2).wellFormed small = false ∧
    (Instr.aditFrameTx 0).wellFormed small = true ∧ (Instr.aditFrameTx 1).wellFormed small = false ∧
    (Instr.memWriteResponse 0 1023 false).wellFormed small = true ∧ (Instr.memWriteResponse 1 0 false).wellFormed small = false ∧
    (Instr.spareSwitchDone 3).wellFormed small = true ∧ (Instr.spareSwitchDone 2).wellFormed small = false ∧
    (Instr.fabricClockStop (some 1) 0).wellFormed small = true ∧ (Instr.fabricClockStop (some 2) 0).wellFormed small = false ∧
    (Instr.timeReq (.adit 0) { kind := 1, state := 0, seq := 0, tTx := 0 }).wellFormed small = true ∧
    (Instr.timeReq (.lattice 2) { kind := 1, state := 0, seq := 0, tTx := 0 }).wellFormed small = false ∧
    (Instr.commit ⟨.tap 15, .none⟩ (msg .commit)).wellFormed small = true ∧ (Instr.commit ⟨.quern 3, .none⟩ (msg .commit)).wellFormed small = false ∧
    Instr.handoverAccept.wellFormed small = true ∧ Instr.handoverAccept.wellFormed Config.aqold = false := by decide

theorem test_wf_fields :
    (Instr.claim 0 4095 1).wellFormed small = true ∧ (Instr.claim 0 4096 1).wellFormed small = false ∧
    (Instr.claim 0 0 3).wellFormed small = false ∧ (Instr.poll 0 512 8).wellFormed small = false ∧
    (Instr.sluiceBlankingEnd 15 0).wellFormed small = true ∧ (Instr.sluiceBlankingEnd 16 0).wellFormed small = false ∧
    (Instr.segment 0 15 (msg .segment) .none).wellFormed small = true ∧ (Instr.segment 0 16 (msg .segment) .none).wellFormed small = false ∧
    (Instr.segment 0 0 { msg .segment with plane := 2 } .none).wellFormed small = false ∧
    (Instr.segment 0 0 { msg .segment with attempt := 2 } .none).wellFormed small = false ∧
    (Instr.segment 0 0 { msg .segment with run := 8 } .none).wellFormed small = false ∧
    (Instr.segment 0 0 { msg .segment with span := ⟨2 ^ 24, 0⟩ } .none).wellFormed small = false ∧
    (Instr.registerWrite (.odRead .i3c 0x1000 256)).wellFormed small = false ∧
    (Instr.registerWrite (.mailboxRead 0x10000 4)).wellFormed small = false ∧
    (Instr.laneSignalDetect 0 8).wellFormed small = false ∧ (Instr.landingDeliver 0 8).wellFormed small = true ∧
    (Instr.landingDeliver 0 9).wellFormed small = false ∧ (Instr.trainingBlock 0 0 false []).wellFormed small = false ∧
    (Instr.memReadResponse 0 0 [1] false .none).wellFormed small = false ∧ (Instr.loadData .i3c []).wellFormed small = false ∧
    (Instr.profileReqWrite .i3c 256).wellFormed small = false ∧ (Instr.scrubPass 0 [.microcode 2] 0).wellFormed small = false ∧
    (Instr.i3cPrivateWrite (List.replicate 15 0)).wellFormed small = false ∧ (Instr.coreDrainValid 0 []).wellFormed small = false ∧
    (Instr.flitRx 0 [] false []).wellFormed small = false ∧ (Instr.extest [true] []).wellFormed small = false ∧
    (Instr.timeReq (.lattice 0) { kind := 256, state := 0, seq := 0, tTx := 0 }).wellFormed small = false ∧
    (Instr.lcf 0 ⟨2 ^ 24, false, List.replicate 8 0, List.replicate 8 0, 0, 0, 0⟩).wellFormed small = false ∧
    (Instr.ibMessage (.lattice 0) ⟨1, 17, 16, 0, 0, 0, false, List.replicate 16 0, List.replicate 16 0, List.replicate 16 0⟩).wellFormed small = false := by
  decide

/-! ### Witnesses: whole-block statements -/

/-- StepKeepsShape and EveryCommandCompletes: a state with the shape of its instance, a step that answers a next state, a command
that the instance can receive. -/
theorem witness_shape : (∀ s ∈ [State.reset, base, live, two []], Shaped s) ∧
    (∃ t, step { live with pending := [.gtcTick] } = .next t) ∧ (Instr.descStart 15).wellFormed live.params = true :=
  ⟨shaped_all (by decide +kernel), ⟨_, rfl⟩, by decide⟩
/-- StepRunsFrontCommand: a queue with a command and a rest; an empty one with a message in flight. -/
theorem witness_step : { live with pending := [Instr.gtcTick, .throttleRise] }.pending = .gtcTick :: [.throttleRise] ∧ live.pending = [] ∧
    { live with onDie := [Instr.descStart 0] }.onDie = .descStart 0 :: [] ∧ live.onDie = [] := ⟨rfl, rfl, rfl, rfl⟩
/-- MicrocodeBytes: contents in canonical form, an address outside the bytes written, the last address of the slots. -/
theorem witness_MicrocodeBytes : Memory.wf [(0, 1), (2 ^ 19 - 1, 255)] = true ∧ (3 < 4 ∨ 4 + 1 ≤ 3) := by decide +kernel

theorem witness_StepRunsFrontCommand :
    { live with pending := [.getpid, .getbcr] }.pending = .getpid :: [.getbcr] ∧ live.pending = [] ∧ live.onDie = [] ∧
    { live with onDie := [.descStart 0] }.onDie = .descStart 0 :: [] ∧ odGet live 0x2200 3 ≠ 4 ∧ live.offerDue = false ∧
    odGet (lv [(0x2200, 3, 4)]) 0x2200 3 = 4 := by decide +kernel

theorem witness_StepKeepsShape : Shaped live ∧ (match step { live with pending := [.gtcTick] } with | .next t => t.uptime | _ => 0) = 10 :=
  ⟨shaped_of (by decide +kernel), by decide +kernel⟩

theorem witness_EveryCommandCompletes : Shaped live ∧ (Instr.descStart 15).wellFormed live.params = true ∧
    (match exec (.descStart 16) live with | .fault f => some f | _ => none) = some (.absentUnit "tap" 16) :=
  ⟨shaped_of (by decide +kernel), by decide +kernel, by decide +kernel⟩

/-! ### Witnesses: requests of the management paths -/

/-- The states of LaunchRequests: ARM at the time root at the least LAUNCH_AT, one below, and with an arrival pending on line 15; ARM away
from the root, locked with a bound of 150 and of 151. -/
def armNow : State := lv [(0x6050, 1, 50000)]
def armLate : State := lv [(0x6050, 1, 49999)]
def armWait : State := modTap (lv [(0x6050, 1, 50000), (0x3000, 3, 0x8000)]) 0 fun x => { x with arrivals := 0x8000 }
def armChild (bound : Nat) : State := { armNow with gtc := { parent := 0x100, state := .locked, parentBound := bound } }
def armFree : State := { armNow with gtc := { parent := 0x100 } }

theorem witness_LaunchRequests :
    (∀ s ∈ [armNow, armLate, armWait, armFree, armChild 100000, { armNow with launch := .armed }, { armNow with launch := .fired },
      { armNow with launch := .aborted }], Serves s .regPort) ∧
    ((timeRole armNow).1 = true ∧ armNow.gtc.state = .free ∧ armNow.launch = .idle ∧
      (gtcNow armNow).toNat + odGet armNow 0x6050 5 * 1000 = odGet armNow 0x6050 1 ∧ errorBound armNow ≤ odGet armNow 0x6050 6 ∧
      arrivalPending armNow 15 = false) ∧
    ((timeRole armFree).1 = false ∧ armFree.gtc.state ≠ .locked) ∧
    (armLate.gtc.state = .free ∧ odGet armLate 0x6050 1 + 1 = (gtcNow armLate).toNat + odGet armLate 0x6050 5 * 1000) ∧
    ((timeRole (armChild 100000)).1 = false ∧ (armChild 100000).gtc.state = .locked ∧
      odGet (armChild 100000) 0x6050 6 < errorBound (armChild 100000)) ∧
    ((sluiceMember armWait 0 &&& (tapAt armWait 0).arrivals).getLsbD 15 = true ∧ 0 < armWait.params.taps) ∧
    { armNow with launch := .armed }.launch ≠ .idle := by
  refine ⟨serves_all (by decide +kernel), ?_⟩
  decide +kernel

theorem witness_ManagementFlagWrites : Serves live .regPort ∧ (4095 : U16).toNat < 4096 ∧ 4096 ≤ (4096 : U16).toNat ∧ (4095 : Nat) < 4096 ∧
    (0 : Nat) ≠ 4095 := ⟨serves_of (by decide +kernel), by decide, by decide, by decide, by decide⟩

/-- Lines 0 and 15 of a group of two taps: one tap has arrived on both lines, then both. -/
def lineHalf (l : LaunchState := .idle) : State :=
  { modTap (lv [(0x3000, 3, 0x8001), (0x3001, 3, 0x8001)]) 0 (fun x => { x with arrivals := 0x8001 }) with launch := l }
def lineFull (l : LaunchState := .idle) : State := modTap (lineHalf l) 1 fun x => { x with arrivals := 0x8001 }

theorem witness_SluiceLinesReleaseAlone :
    (∀ g ∈ [0, 15], (sluiceAnd lineFull).getLsbD g = true ∧ lineFull.blanking.getLsbD g = false ∧ arrivalPending lineFull g = true) ∧
    lineFull.launch = .idle ∧ (sluiceAnd lineHalf).getLsbD 0 = false ∧ { lineFull with blanking := 1 }.blanking.getLsbD 0 = true ∧
    arrivalPending live 1 = false ∧ (lineFull .armed).launch ≠ .idle := by
  decide +kernel

theorem witness_PauseRequests : Serves live .regPort ∧ Shaped live ∧ 0 < live.params.taps :=
  ⟨serves_of (by decide +kernel), shaped_of (by decide +kernel), by decide +kernel⟩

/-- Lattice port 1 in a state, with traffic. -/
def latIn (x : LatState) : State :=
  modLat live 1 fun y => { y with state := x, nextSeq := 7, expSeq := 3, retry := [{ vc := 0 }], txq := [{ vc := 1 }] }

theorem witness_LatticePortRequests :
    (∀ x ∈ [LatState.disabled, .absent, .training, .active, .recovering, .down, .misconnected, .quiet, .test],
      (latAt (latIn x) 1).state = x) ∧
    (∀ s ∈ [latIn .disabled, latIn .test, latIn .active, latIn .absent], Serves s .regPort ∧ Shaped s) ∧ 1 < live.params.latticePorts :=
  ⟨by decide +kernel, fun s h => ⟨serves_all (l := [latIn .disabled, latIn .test, latIn .active, latIn .absent]) (by decide +kernel) s h,
    shaped_all (l := [latIn .disabled, latIn .test, latIn .active, latIn .absent]) (by decide +kernel) s h⟩, by decide +kernel⟩

/-- Adit port 0 in a state, with its link up or down and its addresses set. -/
def aditIn (x : AditState) (up : Bool) : State :=
  modAdit (lv [(0x4100, 7, 5), (0x4100, 8, 6), (0x4100, 0xF, 1)]) 0 fun y => { y with state := x, linkUp := up }

theorem witness_AditPortRequests :
    (∀ s ∈ [live, aditIn .disabled true, aditIn .absent false, aditIn .active true], Serves s .regPort) ∧ Shaped (aditIn .active true) ∧
    odGet live 0x4100 7 = 0 ∧
    (odGet (aditIn .disabled true) 0x4100 7 ≠ 0 ∧ odGet (aditIn .disabled true) 0x4100 8 ≠ 0 ∧ odGet (aditIn .disabled true) 0x4100 0xF ≠ 0 ∧
      (aditAt (aditIn .disabled true) 0).state = .disabled ∧ (aditAt (aditIn .disabled true) 0).linkUp = true) ∧
    (aditAt (aditIn .absent false) 0).state = .absent ∧ (aditAt (aditIn .active true) 0).state = .active := by
  refine ⟨serves_all (by decide +kernel), shaped_of (by decide +kernel), ?_⟩
  decide +kernel

theorem witness_SpareRequests :
    (∀ s ∈ [live, lv [(0x2210, 9, 3)]], Serves s .regPort) ∧ (positionOf live 0 = some 0 ∧ positionOf live 1 = some 1) ∧
    (live.params.positions ≤ 3 ∧ 3 < live.params.querns) ∧ (spareFree live 3 = true ∧ spareFits live.params 3 0 = true) ∧
    (∀ k ∈ planesOf (lv [(0x2210, 9, 3)]) 0, planeState (lv [(0x2210, 9, 3)]) k = 3) ∧
    (0 ∈ planesOf live 0 ∧ planeState live 0 ≠ 3) ∧
    spareFree (modQuern live 0 fun x => { x with server := some 3 }) 3 = false := by
  refine ⟨serves_all (by decide +kernel), ?_⟩
  decide +kernel

theorem witness_CounterRequests :
    (∀ s ∈ [live, q0 [running dMax]], Serves s .regPort) ∧ Shaped live ∧
    (bitOf (3 : U32).toNat 1 = true ∧ ∀ k, k < 2 → planeInFlight live k = false) ∧
    (bitOf (1 : U32).toNat 0 = true ∧ planeInFlight (q0 [running dMax]) 0 = true) := by
  refine ⟨serves_all (by decide +kernel), shaped_of (by decide +kernel), ?_⟩
  decide +kernel

/-- The injection of a kind set up at an object kind. -/
def inj (kind obj : Nat) : State := lv [(0x7038, 1, kind), (0x7038, 2, obj * 256)]
theorem witness_SumpAndInjectionRequests :
    (∀ s ∈ [inj 1 2, inj 6 2, { inj 1 2 with inject := { armed := true } }], Serves s .regPort) ∧ (inj 1 2).inject.armed = false ∧
    odGet (inj 1 2) 0x7038 1 ∈ injectKinds (inj 1 2) (bitsOf (odGet (inj 1 2) 0x7038 2) 15 8) (bitsOf (odGet (inj 1 2) 0x7038 2) 7 0) ∧
    odGet (inj 6 2) 0x7038 1 ∉ injectKinds (inj 6 2) (bitsOf (odGet (inj 6 2) 0x7038 2) 15 8) (bitsOf (odGet (inj 6 2) 0x7038 2) 7 0) := by
  refine ⟨serves_all (by decide +kernel), ?_⟩
  decide +kernel

/-- `live` with a lock holder. -/
def lockOf (p : Option Path) : State := { live with lock := { holder := p } }
theorem witness_LockRequests :
    (∀ s ∈ [lockOf none, lockOf (some .regPort), lockOf (some .i3c), lockOf (some (.inBand 5))],
      ∀ p ∈ [Path.regPort, .i3c, .inBand 5], Reaches s p) ∧
    (lockOf none).lock.holder = none ∧ (lockOf (some .regPort)).lock.holder = some .regPort ∧ Path.inBand 5 ≠ .inBand 6 ∧
    Path.regPort ≠ .i3c := by
  refine ⟨fun s hs p hp => ?_, rfl, rfl, by decide, by decide⟩
  have h : [lockOf none, lockOf (some .regPort), lockOf (some .i3c), lockOf (some (.inBand 5))].all (fun s =>
      [Path.regPort, .i3c, .inBand 5].all fun p => s.params.supported && !s.resetting && !s.swapping && pathOn s p) = true := by
    decide +kernel
  exact reaches_of (List.all_eq_true.mp (List.all_eq_true.mp h s hs) p hp)

/-- A prepared epoch after a configuration object was lost. -/
def lost : State := { lv [(0x2200, 3, 2)] with setup := { objectLost := [(0x2201, 1)] } }
theorem witness_EpochRequests :
    (∀ s ∈ [live, lost, lv [(0x2200, 3, 1)], lv [(0x2200, 3, 2), (0x2200, 7, 1)], lv [(0x2200, 3, 3)], lv [(0x2210, 9, 2)], lv [(0x2210, 9, 3)],
      lv [(0x2210, 9, 0)]], Serves s .regPort) ∧
    odGet live 0x2200 3 = 0 ∧ odGet (lv [(0x2200, 3, 1)]) 0x2200 3 = 1 ∧ odGet (lv [(0x2200, 3, 3)]) 0x2200 3 = 3 ∧
    (odGet (lv [(0x2200, 3, 2), (0x2200, 7, 1)]) 0x2200 3 = 2 ∧ bitOf (odGet (lv [(0x2200, 3, 2), (0x2200, 7, 1)]) 0x2200 7) 0 = true ∧
      planeState (lv [(0x2200, 3, 2), (0x2200, 7, 1)]) 0 = 1) ∧
    planeState (lv [(0x2210, 9, 2)]) 0 = 2 ∧ planeState (lv [(0x2210, 9, 3)]) 0 = 3 ∧ planeState (lv [(0x2210, 9, 0)]) 0 = 0 ∧
    odGet lost 0x2200 3 = 2 ∧ lost.setup.objectLost ≠ [] := by
  refine ⟨serves_all (by decide +kernel), ?_⟩
  decide +kernel

theorem witness_ApplyTakesEffect :
    (∀ s ∈ [lv [(0x2200, 3, 2), (0x2200, 7, 3), (0x2210, 9, 3)]], Serves s .regPort) ∧
    odGet (lv [(0x2200, 3, 2), (0x2200, 7, 3), (0x2210, 9, 3)]) 0x2200 3 = 2 ∧
    (lv [(0x2200, 3, 2), (0x2200, 7, 3), (0x2210, 9, 3)]).setup.objectLost = [] ∧ ∀ k, k < 2 → planeState (lv [(0x2200, 3, 2), (0x2200, 7, 3), (0x2210, 9, 3)]) k = 3 ∨
      planeState (lv [(0x2200, 3, 2), (0x2200, 7, 3), (0x2210, 9, 3)]) k = 0 :=
  ⟨serves_all (by decide +kernel), by decide +kernel, by decide +kernel, by decide +kernel⟩

theorem witness_StandardLayoutRequest :
    (∀ s ∈ [lv [(0x2201, 8, 16)], lv [(0x2201, 8, 17)], lv [(0x2201, 8, 16), (0x2200, 3, 2)]], Serves s .regPort) ∧
    (stagedOpen (lv [(0x2201, 8, 16)]) = true ∧ stdRefused (lv [(0x2201, 8, 16)]) = false) ∧
    (stagedOpen (lv [(0x2201, 8, 17)]) = true ∧ stdRefused (lv [(0x2201, 8, 17)]) = true) ∧
    odGet (lv [(0x2201, 8, 16), (0x2200, 3, 2)]) 0x2200 3 = 2 := by
  refine ⟨serves_all (by decide +kernel), ?_⟩
  decide +kernel

/-- A context image of contributor 0, saved at tap 0; `live` with tap 0 unbound, and with every tap unbound. -/
def image : CtxImage := ⟨1, 0, 0, 1, 0, 0, 0, 0, 5, 0, 9, 8, 0x1000, 64, List.replicate 8 [0, 0, 0, 0], dMax, 6, [], [], []⟩
def tapIn (x : TapState) : State := modTap live 0 fun y => { y with state := x }
def allUnbound : State := { live with taps := live.taps.map fun y => { y with state := .unbound } }

theorem witness_ContextRequests :
    (∀ s ∈ [live, tapIn .unbound, tapIn .saving, tapIn .parked, tapIn .fenced, allUnbound], Serves s .regPort ∧ Shaped s) ∧
    (tapAt live 0).state = .active ∧ (tapAt (tapIn .parked) 0).state = .parked ∧ (tapAt (tapIn .unbound) 0).state = .unbound ∧
    restoreRefusal live 0 image false = some 1 ∧ restoreRefusal (tapIn .unbound) 0 image true = some 5 ∧
    restoreRefusal (tapIn .unbound) 0 image false = none ∧ restoreRefusal allUnbound 0 image true = none ∧
    imageOfBytes (imageBytes image) = image := by
  refine ⟨fun s h => ⟨serves_all (l := [live, tapIn .unbound, tapIn .saving, tapIn .parked, tapIn .fenced, allUnbound]) (by decide +kernel) s h,
    shaped_all (l := [live, tapIn .unbound, tapIn .saving, tapIn .parked, tapIn .fenced, allUnbound]) (by decide +kernel) s h⟩, ?_⟩
  decide +kernel

/-- A Gallery with one row and one entry, on an instance with and without taps. -/
def galleryOf (s : State) (l : List (Nat × Nat × Nat)) : State :=
  { withOd s l with gallery := { rows := [{ step := 3, stepEddy := 9, entries :=
      [{ bucket := 4, sel := 0xFFFFFF, plane := 0, words := [1, 2, 3, 4, 5, 6, 7, 8], inputs := [7, 8] }] }], capture := [(1, [2])] } }
def pool : State :=
  { State.powerOn { small with taps := 0, poolQuerns := 1, galleryPackage := true } 0 8 with lock := { holder := some .regPort } }

theorem witness_GalleryRequests :
    (∀ s ∈ [live, galleryOf live [(0x5041, 1, 3)], galleryOf live [(0x5041, 1, 3), (0x5041, 2, 4)], galleryOf pool [(0x5041, 1, 3), (0x5041, 2, 4)],
      lv [(0x5050, 4, 1)]], Serves s .regPort) ∧
    queryRow live = none ∧
    ((queryRow (galleryOf live [(0x5041, 1, 3)])).map fun r => (queryEntry (galleryOf live [(0x5041, 1, 3)]) r).isSome) = some false ∧
    ((queryRow (galleryOf live [(0x5041, 1, 3), (0x5041, 2, 4)])).map fun r =>
      (queryEntry (galleryOf live [(0x5041, 1, 3), (0x5041, 2, 4)]) r).isSome) = some true ∧
    ((queryRow (galleryOf pool [(0x5041, 1, 3), (0x5041, 2, 4)])).map fun r =>
      (queryEntry (galleryOf pool [(0x5041, 1, 3), (0x5041, 2, 4)]) r).isSome) = some true ∧
    tapped live = true ∧ tapped pool = false ∧ odGet (lv [(0x5050, 4, 1)]) 0x5050 4 = 1 ∧ odGet live 0x5050 4 ≠ 1 := by
  refine ⟨serves_all (by decide +kernel), ?_⟩
  decide +kernel

/-- An entry of a bucket, a row of 256 of them, and a Gallery with ROW_SLOTS 256 that holds a row of STEP 3 and one of STEP 5. -/
def galEntry (b : Nat) : GalEntry := { bucket := b, sel := 0xFFFFFF, plane := 0, words := [0x1000, 7, 0, 0], inputs := [] }
def galRow (step : U64) (n : Nat) : GalRow :=
  let l := (List.range n).map galEntry
  { step := step, entries := l, stepEddy := (l.map (galTerm true)).sum % eddyP }
def gallery2 (n : Nat) : State := { lv [(0x5040, 3, 256)] with gallery := { rows := [galRow 3 n, galRow 5 1] } }
/-- GalleryRequests, the rows: a full row, a key that is held and one that is not, a STEP between those held and one that is older. -/
theorem witness_GalleryRequests_rows :
    ((gallery2 256).gallery.rows.find? fun x => x.step == 3) = some (galRow 3 256) ∧ (galRow 3 256).entries.any (galSame (galEntry 256)) = false ∧
    rowSlots (gallery2 256) ≤ ((galRow 3 256).entries.filter fun o => o.plane == (galEntry 256).plane || tapped (gallery2 256)).length ∧
    (galRow 3 256).entries.any (galSame (galEntry 255)) = true ∧
    ((galRow 3 255).entries.filter fun o => o.plane == (galEntry 255).plane || tapped (gallery2 255)).length < rowSlots (gallery2 255) ∧
    (∀ r ∈ (gallery2 1).gallery.rows, r.step ≠ 4 ∧ r.step ≠ 2) ∧ 0 < galDepth (gallery2 1) ∧ (∃ r ∈ (gallery2 1).gallery.rows, r.step.toNat < (4 : U64).toNat) ∧
    (∀ r ∈ (gallery2 1).gallery.rows, (2 : U64).toNat < r.step.toNat) ∧
    (∀ r ∈ (gallery2 2).gallery.rows, (r.entries.Pairwise fun a b => galSame a b = false) ∧
      r.stepEddy = (r.entries.map (galTerm (tapped (gallery2 2)))).sum % eddyP) ∧
    (entry dMax).desc.op ≠ 8 ∧ { entry dMax with status := 2 }.status ≠ 0 ∧ (entry dMax).status = 0 ∧ (entry dMax).desc.frozen = false := by
  decide +kernel

/-- 256 bytes, the slots while an image is loaded, and once one of two bytes stands in the idle slot. -/
def block : List Byte := List.replicate 256 3
def loading (o n : Nat) : State := lv [(0x7F00, 0xA, 1), (0x7F00, 5, n), (0x7F00, 7, o)]
def loaded (crc : Nat) : State := { lv [(0x7F00, 0xA, 1), (0x7F00, 5, 2), (0x7F00, 6, crc)] with ucode := [(2 ^ 18, 3), (2 ^ 18 + 1, 4)] }

theorem witness_MicrocodeRequests :
    (∀ s ∈ [live, lv [(0x7F00, 0xA, 4)], loading 256 512, loading 256 511, loaded 5, lv [(0x7F00, 4, 3)], withOd base [(0x7F00, 4, 3)]],
      Serves s .regPort) ∧
    loadStatus (lv [(0x7F00, 0xA, 4)]) = 4 ∧ loadStatus live ≠ 4 ∧ loadStatus live ≠ 1 ∧ block.length = 256 ∧
    (loadStatus (loading 256 512) = 1 ∧ odGet (loading 256 512) 0x7F00 7 + 256 = odGet (loading 256 512) 0x7F00 5) ∧
    odGet (loading 256 511) 0x7F00 5 < odGet (loading 256 511) 0x7F00 7 + 256 ∧
    (crc64 ((loaded 5).ucode.readBytes (idleSlot (loaded 5) * 2 ^ 18) (odGet (loaded 5) 0x7F00 5)) = crc64 [3, 4] ∧ (crc64 [3, 4]).toNat ≠ 5) ∧
    odGet live 0x7F00 4 % 4 ≠ 3 ∧ (odGet (lv [(0x7F00, 4, 3)]) 0x7F00 4 % 4 = 3 ∧ activePlanes (lv [(0x7F00, 4, 3)]) ≠ []) ∧
    activePlanes (withOd base [(0x7F00, 4, 3)]) = [] ∧ live.power.state ≠ .dormant := by
  refine ⟨serves_all (by decide +kernel), ?_⟩
  decide +kernel
theorem witness_seal : odGet (loaded (crc64 [3, 4]).toNat) 0x7F00 6 = (crc64 [3, 4]).toNat := by decide +kernel

/-- `live` in a power state. -/
def powerIn (x : PowerState) : State := { live with power := { live.power with state := x } }
theorem witness_PowerRequests :
    (∀ s ∈ [powerIn .running, powerIn .entering, powerIn .dormant, powerIn .waking], Serves s .regPort) ∧
    (powerIn .entering).power.state = .entering ∧ (powerIn .waking).power.state = .waking ∧
    (600 ≤ (600 : U16).toNat ∧ (600 : U16).toNat % 25 = 0 ∧ (1100 : U16).toNat ≤ 1100 ∧ (1100 : U16).toNat % 25 = 0) ∧
    ((599 : U16).toNat < 600 ∧ 1100 < (1101 : U16).toNat ∧ (601 : U16).toNat % 25 ≠ 0) ∧
    (profileOffered live 3 = false ∧ profileOffered live 2 = true) ∧
    (0 = live.power.changing.getD (odGet live 0x7100 2) ∧ 2 ≠ live.power.changing.getD (odGet live 0x7100 2)) := by
  refine ⟨serves_all (by decide +kernel), ?_⟩
  decide +kernel

theorem witness_ResetRequests :
    (∀ s ∈ [live, tapIn .unbound, tapIn .fenced, two []], Serves s .regPort ∧ Shaped s) ∧ bitOf (3 : U32).toNat 1 = true ∧
    live.params.latticePorts ≤ 2 ∧ live.params.aditPorts ≤ 1 ∧ live.params.taps ≤ 16 ∧ portPlanes (two []) (.lattice 0) ≠ [] ∧
    portPlanes live (.lattice 0) = [] ∧ portPlanes live (.adit 0) = [] ∧
    portPlanes (withCfg live [(0x2211, 1, 1), (0x2211, 4, 0x200)]) (.adit 0) ≠ [] ∧
    (tapAt live 0).state ≠ .unbound ∧ (tapAt live 0).state ≠ .fenced ∧ (tapAt live 15).state = .unbound := by
  refine ⟨fun s h => ⟨serves_all (l := [live, tapIn .unbound, tapIn .fenced, two []]) (by decide +kernel) s h,
    shaped_all (l := [live, tapIn .unbound, tapIn .fenced, two []]) (by decide +kernel) s h⟩, ?_⟩
  decide +kernel

theorem witness_RequestChecks :
    (Reaches (lockOf (some .i3c)) .regPort ∧ (lockOf (some .i3c)).lock.holder ≠ some .regPort) ∧
    (live.params.supported = true ∧ live.resetting = false ∧ live.swapping = false ∧ pathOn (lv [(0x1100, 2, 0)]) (.inBand 5) = false) ∧
    { live with resetting := true }.resetting = true ∧ { live with swapping := true }.swapping = true :=
  ⟨⟨reaches_of (by decide +kernel), by decide +kernel⟩, ⟨by decide +kernel, by decide +kernel, by decide +kernel, by decide +kernel⟩, rfl, rfl⟩
/-- RequestChecks: an object that is absent, one that is only written, read or constant, and for a writable one each check in turn. -/
theorem witness_RequestChecks_order :
    (live.resetting = false ∧ live.swapping = false ∧ pathOn live .regPort = true) ∧ accessRow live 0xFFFF 1 = none ∧
    ((accessRow live 0x6001 1).map (·.acc) = some .wo ∧ (accessRow live 0x6030 2).map (·.acc) = some .ro ∧
      (accessRow live 0x1000 1).map (·.acc) = some .const ∧ (accessRow live 0x6020 5).map (fun r => (r.acc, r.ty.bytes)) = some (.rw, 4)) ∧
    (([1, 2, 3] : List Byte).length ≠ 4 ∧ ([1, 0, 0, 0] : List Byte).length = 4 ∧ ¬(0x6020 = 0x1100 ∧ 5 = 3) ∧
      live.lock.holder = some .regPort ∧ live.lock.holder ≠ some .i3c) ∧
    ((accessRow live 0x6020 5).map fun r => (inRange live r 0x6020 5 0, inRange live r 0x6020 5 1, writable live r 0x6020 5)) =
      some (false, true, true) ∧
    ((accessRow live 0x2201 1).map fun r => (inRange (lv [(0x2200, 3, 1)]) r 0x2201 1 1, writable (lv [(0x2200, 3, 1)]) r 0x2201 1)) =
      some (true, false) := by decide +kernel

/-! ### Witnesses: the tap window and the register accesses -/

/-- `live` with tap 1 in a state, its queue of a length, and BUSY_COUNT. -/
def pst (q : Nat) (x : TapState := .active) (busy : U16 := 0) : State :=
  modTap live 1 fun y => { y with state := x, queue := List.replicate q (entry dMax), busyCount := busy }
/-- `live` with a tap that ignores its core. -/
def deaf : State := modTap live 1 fun y => { y with ignoreCore := true }

theorem witness_PostAtWindow :
    (∀ s ∈ [deaf, pst 0, pst 63, pst 64, pst 64 .active 0xFFFF, pst 0 .parked, withOd (pst 0) [(0x3001, 5, 0xFFFFFFFF)], withOd (pst 1) [(0x3001, 6, 63)]],
      Shaped s) ∧ coreOff deaf 1 = true ∧
    (∀ s ∈ [pst 63, withOd (pst 0) [(0x3001, 5, 0xFFFFFFFF)]],
      coreOff s 1 = false ∧ (tapAt s 1).state = .active ∧ (tapAt s 1).queue.length < 64 ∧ queueFree s 1 ≠ 0) ∧
    (coreOff (pst 0 .parked) 1 = false ∧ (tapAt (pst 0 .parked) 1).state ≠ .active) ∧
    (∀ s ∈ [pst 64, pst 64 .active 0xFFFF], coreOff s 1 = false ∧ (tapAt s 1).state = .active ∧ 64 ≤ (tapAt s 1).queue.length) ∧
    coreOff (withOd (pst 1) [(0x3001, 6, 63)]) 1 = false ∧ (tapAt (withOd (pst 1) [(0x3001, 6, 63)]) 1).state = .active ∧
    queueFree (withOd (pst 1) [(0x3001, 6, 63)]) 1 = 0 := by
  refine ⟨shaped_all (by decide +kernel), ?_⟩
  decide +kernel

/-- CQ_HEAD just below 2^32, CQ_TAIL 2. -/
def cqWrap : State := lv [(0x3001, 6, 2), (0x3001, 7, 0xFFFFFFFE)]
theorem witness_CompletionQueueHead :
    1 < live.params.taps ∧ coreOff deaf 1 = true ∧ coreOff cqWrap 1 = false ∧
    ((2 : U64).toNat % 2 ^ 32 + 2 ^ 32 - cqHead cqWrap 1) % 2 ^ 32 ≤ (cqTail cqWrap 1 + 2 ^ 32 - cqHead cqWrap 1) % 2 ^ 32 ∧
    ((0x1FFFFFFFE : U64).toNat % 2 ^ 32 + 2 ^ 32 - cqHead cqWrap 1) % 2 ^ 32 ≤ (cqTail cqWrap 1 + 2 ^ 32 - cqHead cqWrap 1) % 2 ^ 32 ∧
    (cqTail cqWrap 1 + 2 ^ 32 - cqHead cqWrap 1) % 2 ^ 32 < ((3 : U64).toNat % 2 ^ 32 + 2 ^ 32 - cqHead cqWrap 1) % 2 ^ 32 ∧
    (cqTail cqWrap 1 + 2 ^ 32 - cqHead cqWrap 1) % 2 ^ 32 < ((0xFFFFFFFD : U64).toNat % 2 ^ 32 + 2 ^ 32 - cqHead cqWrap 1) % 2 ^ 32 := by
  decide +kernel

theorem witness_WindowFlagOperations :
    Shaped live ∧ 1 < live.params.taps ∧ coreOff live 1 = false ∧ coreBound (tapAt live 1) = true ∧ live.power.state = .running ∧
    live.power.common = true ∧ (4095 : U64).toNat < 4096 ∧ 4096 ≤ (4096 : U64).toNat ∧ (64 = 64 ∧ 448 % 64 = 0 ∧ 448 + 64 ≤ 512) ∧
    (512 < 512 + 8 ∧ 4 % 8 ≠ 0 ∧ 2 ≠ 1) ∧ coreBound (tapAt live 15) = false :=
  ⟨shaped_of (by decide +kernel), by decide +kernel⟩

/-- `live` with the common clock off. -/
def unclocked : State := { live with power := { live.power with common := false } }
theorem witness_WindowWaits :
    coreOff deaf 1 = true ∧
    (coreOff unclocked 1 = false ∧ unclocked.power.state = .running ∧ coreBound (tapAt unclocked 1) = true ∧ unclocked.power.common = false) ∧
    (∀ x ∈ [PowerState.dormant, .waking, .entering], coreOff (powerIn x) 1 = false ∧ coreBound (tapAt (powerIn x) 1) = true ∧
      (powerIn x).power.state = x) ∧ (8 = 8 ∧ 504 % 8 = 0 ∧ 504 + 8 ≤ 512) ∧
    (coreOff live 15 = false ∧ coreBound (tapAt live 15) = false) := by decide +kernel

/-- Taps 0 and 1 members of line 15, tap 0 of lines 0 and 1 too; the arrivals pending at tap 1. -/
def sluices (a : BitVec 16) (l : LaunchState := .idle) : State :=
  { modTap (lv [(0x3000, 3, 0x8003), (0x3001, 3, 0x8001)]) 1 (fun y => { y with arrivals := a }) with launch := l }
theorem witness_SluiceDriveAndLines :
    Shaped (sluices 0x8001) ∧ coreOff (sluices 0x8001) 1 = false ∧ (sluices 0x8001).power.state = .running ∧
    (sluices 0x8001).power.common = true ∧ (sluices 0x8001).launch = .idle ∧
    ∀ u, u < (sluices 0x8001).params.taps → (tapAt (sluices 0x8001) u).keptDrive = none :=
  ⟨shaped_of (by decide +kernel), by decide +kernel⟩

theorem witness_SluiceArrivals :
    (∀ s ∈ [sluices 0, sluices 0 .armed], coreOff s 1 = false ∧ coreBound (tapAt s 1) = true ∧ s.power.state = .running ∧ s.power.common = true) ∧
    (sluices 0).launch = .idle ∧ (sluices 0 .armed).launch ≠ .idle ∧ (0x7FFF : U64).getLsbD 15 = false ∧ (0x8000 : U64).getLsbD 15 = true ∧
    { live with blanking := 0x8001 }.blanking.getLsbD 15 = true ∧ live.blanking.getLsbD 15 = false ∧ Serves live .regPort :=
  ⟨by decide +kernel, by decide +kernel, by decide +kernel, by decide, by decide, by decide +kernel, by decide +kernel, serves_of (by decide +kernel)⟩

theorem witness_LaunchLine :
    (sluices 0 .armed).launch = .armed ∧ (sluices 0 .fired).launch = .fired ∧ (sluices 0 .aborted).launch = .aborted ∧ (sluices 0).launch = .idle ∧
    (∀ s ∈ [sluices 0 .armed, sluices 0 .fired], coreOff s 1 = false ∧ coreBound (tapAt s 1) = true ∧ s.power.state = .running ∧
      s.power.common = true) ∧ (tapAt (sluices 0 .armed) 1).arrivals.getLsbD 15 = false ∧ Shaped (sluices 0 .armed) :=
  ⟨by decide +kernel, by decide +kernel, by decide +kernel, by decide +kernel, by decide +kernel, by decide +kernel, shaped_of (by decide +kernel)⟩

/-- `live` at 3 ms, with a watchdog of tap 1. -/
def dog (d : Watchdog) : State := { modTap live 1 (fun y => { y with dog := d }) with uptime := 3000000 }
def polled (at_ : Nat) : Watchdog := { last := some ⟨0, 0, 8, 1⟩, lastAt := at_, limit := 1000 }
theorem witness_PollWatchdogFires :
    (∀ s ∈ [dog {}, dog (polled 2000001), dog (polled 2000000), dog { fired := true }], Shaped s) ∧
    (999 < (tapAt (dog (polled 2000001)) 1).dog.limit ∧ (tapAt (dog { fired := true }) 1).dog.fired = true) ∧
    (∀ s ∈ [dog (polled 2000001), dog (polled 2000000)], (tapAt s 1).dog.limit ≤ 1000 ∧ (tapAt s 1).dog.fired = false) ∧
    ((tapAt (dog (polled 2000001)) 1).dog.last.isSome = true ∧
      (dog (polled 2000001)).uptime < (tapAt (dog (polled 2000001)) 1).dog.lastAt + 1000000) ∧
    ((tapAt (dog {}) 1).dog.last = none ∧ (tapAt (dog {}) 1).dog.limit ≤ 2000000) ∧
    (tapAt (dog (polled 2000000)) 1).dog.lastAt + 1000000 ≤ (dog (polled 2000000)).uptime := by
  refine ⟨shaped_all (by decide +kernel), ?_⟩
  decide +kernel

theorem witness_RegisterAccesses :
    coreOff live 1 = false ∧ mbUnderWay live = false ∧ live.paths.mbReq.length = 320 ∧ Serves live .regPort ∧
    writeCheck live .regPort 0x6001 1 [4, 0] = 0 ∧ (objectRule (ready live 0x6001) .regPort 0x6001 1 [4, 0] none).2 = 0 ∧
    readCheck live .regPort 0x1000 1 = 0 ∧ readCheck live .regPort 0x6040 1 = 0 ∧ live.gtc.sub < 10 ∧
    (4 < 0x40 ∧ ¬(8 = 64 ∧ 4 = 0) ∧ ¬(8 = 8 ∧ 4 % 8 = 0)) ∧ (0x1000 ≤ 0x11FF ∧ 0x11FF < 0x1200 ∧ 0x2000 ≤ 0x2FFF ∧ 0x2FFF < 0x3000) ∧
    (∃ r ∈ [0x40, 0x48, 0x80, 0x88, 0x100, 0x108, 0x180, 0x188, 0x190, 0x200], 0x8C / 8 * 8 = r ∧ 0x8C ≠ r) ∧
    (∃ r ∈ [0x40, 0x48, 0x80, 0x88, 0x100, 0x108, 0x180, 0x188, 0x190, 0x200], 0x100 / 8 * 8 = r ∧ r ∈ [0x100, 0x108, 0x180]) ∧
    (4 ≠ 8 ∧ 5 % 4 ≠ 0) :=
  ⟨by decide +kernel, by decide +kernel, by decide +kernel, serves_of (by decide +kernel), by decide +kernel, by decide +kernel, by decide +kernel, by decide +kernel⟩

/-! ### Witnesses: mailbox, I3C and in-band paths -/

/-- The bytes of a request: the read of 0x1000:01 with tag 5. -/
def readReq : List Byte := natToBytes (1 * 2 ^ 56 + 5 * 2 ^ 32 + 0x1000 * 2 ^ 16 + 1 * 2 ^ 8) 8 ++ natToBytes 0 8
/-- `live` with the mailbox busy, its interrupt enabled. -/
def mailbox (busy irq : Bool) : State := { live with paths := { live.paths with mbBusy := busy, mbIrqEn := irq, mbReq := padBytes readReq 320 } }

theorem witness_MailboxRequests :
    ((1 : U32).getLsbD 0 = true ∧ (1 : U32).getLsbD 1 = false ∧ (2 : U32).getLsbD 0 = false) ∧
    (mbUnderWay (mailbox false true) = false ∧ (mailbox false true).resetting = false ∧ (mailbox false true).swapping = false) ∧
    (mbUnderWay { mailbox false true with resetting := true } = false ∧ { mailbox false true with resetting := true }.resetting = true) ∧
    mbUnderWay (mailbox true true) = true ∧ ((mailbox true true).paths.mbBusy = true ∧ odGet (mailbox true true) 0x1100 9 ≤ 100000) ∧
    ((mailbox false true).paths.mbBusy = false ∧ 0 < odGet (mailbox true true) 0x1100 9) := by decide +kernel
/-- `live` with a remote request in the mailbox: RMODE, PATH_LEN and the first byte of its path; lattice port 1 may be ACTIVE. -/
def remote (rmode pathLen first : Nat) (up : Bool) : State :=
  let m : IbMsg := ⟨rmode, 0, 16, pathLen, 9, 7, false, (List.replicate 16 0).set 0 first, List.replicate 16 0, readReq⟩
  { modLat live 1 (fun x => if up then { x with state := .active } else x) with paths := { live.paths with mbReq := padBytes (ibBytes m) 320 } }
/-- MailboxRequests, a request for another node: in RMODE 1, and in RMODE 2 by a port that is up, that is not, and that does not exist. -/
theorem witness_MailboxRequests_remote :
    (∀ s ∈ [remote 1 1 1 true, remote 2 1 1 true, remote 2 1 1 false, remote 2 1 0xFF true], Shaped s) ∧
    (3 : U32).getLsbD 0 = true ∧ (3 : U32).getLsbD 1 = true ∧
    (∀ s ∈ [remote 1 1 1 true, remote 2 1 1 true, remote 2 1 1 false, remote 2 1 0xFF true],
      mbUnderWay s = false ∧ s.resetting = false ∧ s.swapping = false) ∧
    (mbMessage (remote 1 1 1 true)).rmode = 1 ∧ ((mbMessage (remote 2 1 1 true)).rmode = 2 ∧ (mbMessage (remote 2 1 1 true)).pathLen ≠ 0) ∧
    (pathPort ((mbMessage (remote 2 1 1 true)).fwdPath.getD 0 0xFF) = some (.lattice 1) ∧ portUp (remote 2 1 1 true) (.lattice 1) = true) ∧
    (pathPort ((mbMessage (remote 2 1 1 false)).fwdPath.getD 0 0xFF)).all (fun p => !portUp (remote 2 1 1 false) p) = true ∧
    (pathPort ((mbMessage (remote 2 1 0xFF true)).fwdPath.getD 0 0xFF)).all (fun p => !portUp (remote 2 1 0xFF true) p) = true := by
  refine ⟨shaped_all (by decide +kernel), ?_⟩
  decide +kernel

theorem witness_I3cPrivateTransfers :
    readReq.length = 16 ∧ (List.replicate 272 (0 : Byte)).length ≤ 272 ∧ (List.replicate 15 (0 : Byte)).length < 16 ∧
    272 < (List.replicate 273 (0 : Byte)).length ∧ live.resetting = false ∧ live.swapping = false ∧
    { live with paths := { live.paths with i3cRsp := some [1, 2] } }.paths.i3cRsp = some [1, 2] ∧ live.paths.i3cRsp = none ∧
    { live with swapping := true }.swapping = true := by decide +kernel

/-- An in-band request of node 7 for this node. -/
def inBandMsg : IbMsg := ⟨1, 0, 16, 0, 0, 7, false, List.replicate 16 0, List.replicate 16 0, readReq⟩
/-- `live` with a key in the forward table, with a kept response. -/
def forwarded : State := { live with paths := { live.paths with fwd := [(7, 5, false)] } }
def answeredBefore : State := { live with paths := { live.paths with kept := [⟨7, 5, [1, 2, 3]⟩] } }
/-- In RMODE 2 after two hops, with a path whose third port is given. -/
def pathMsg (pathLen next : Nat) (response : Bool) : IbMsg :=
  ⟨2, 2, 16, pathLen, 9, 7, response, (List.replicate 16 0).set 3 next, List.replicate 16 0, readReq⟩
/-- The mailbox waits for the response with the tag of `readReq`; 256 forward keys; 16 requests that wait in a block reset. -/
def awaiting : State := { live with paths := { live.paths with mbBusy := true, mbTag := some (reqTag readReq) } }
def manyKeys : State := { live with paths := { live.paths with fwd := (List.range 256).map fun n => (u32 (n + 100), 0, false) } }
def heldRequests (n : Nat) : State := { live with resetting := true, held := List.replicate n (.engine, .ibMessage (.lattice 0) inBandMsg) }
theorem witness_InBandRouting_paths :
    (∀ s ∈ [live, remote 2 1 1 true, remote 2 1 1 false, awaiting, manyKeys, heldRequests 15, heldRequests 16], Shaped s) ∧
    (pathMsg 5 1 false).retPath.length = 16 ∧ (pathMsg 5 1 false).hops < 16 ∧ (pathMsg 5 1 false).rmode = 2 ∧
    (pathMsg 5 1 false).hops + 1 ≠ (pathMsg 5 1 false).pathLen ∧
    (pathPort ((pathMsg 5 1 false).fwdPath.getD 3 0xFF) = some (.lattice 1) ∧ portUp (remote 2 1 1 true) (.lattice 1) = true) ∧
    (pathPort ((pathMsg 5 1 false).fwdPath.getD 3 0xFF)).all (fun p => !portUp (remote 2 1 1 false) p) = true ∧
    (pathMsg 5 1 true).response = true ∧ (pathMsg 3 1 false).hops + 1 = (pathMsg 3 1 false).pathLen ∧
    (awaiting.paths.mbBusy = true ∧ awaiting.paths.mbTag = some (reqTag (pathMsg 3 1 true).request) ∧ live.paths.mbBusy = false) ∧
    (256 ≤ manyKeys.paths.fwd.length ∧ (inBandMsg.srcNode, reqTag inBandMsg.request, inBandMsg.response) ∉ manyKeys.paths.fwd) ∧
    (ibWaiting (heldRequests 15) < 16 ∧ 16 ≤ ibWaiting (heldRequests 16) ∧ pathOn (heldRequests 16) (.inBand 7) = true ∧
      (heldRequests 16).resetting = true) ∧
    { inBandMsg with hops := 15 }.hopLimit ≤ { inBandMsg with hops := 15 }.hops + 1 := by
  refine ⟨shaped_all (by decide +kernel), ?_⟩
  decide +kernel
theorem witness_InBandRouting :
    (1 < live.params.latticePorts ∧ 0 < live.params.aditPorts) ∧ 16 ≤ { inBandMsg with hops := 16 }.hops ∧
    ({ inBandMsg with hops := 15, rmode := 0 }.hops < 16 ∧ { inBandMsg with rmode := 0 }.rmode ≠ 1 ∧ { inBandMsg with rmode := 3 }.rmode ≠ 2) ∧
    ({ inBandMsg with destNode := 9 }.destNode.toNat ≠ nodeId live ∧ inBandMsg.destNode.toNat = nodeId live ∧ inBandMsg.rmode = 1) ∧
    ((inBandMsg.srcNode, reqTag inBandMsg.request, inBandMsg.response) ∈ forwarded.paths.fwd ∧
      (inBandMsg.srcNode, reqTag inBandMsg.request, inBandMsg.response) ∉ live.paths.fwd) ∧
    { inBandMsg with hops := 14 }.hops + 1 < inBandMsg.hopLimit ∧
    (answeredBefore.paths.kept.find? fun k => k.src == inBandMsg.srcNode && k.tag == reqTag inBandMsg.request) = some ⟨7, 5, [1, 2, 3]⟩ ∧
    (live.paths.kept.find? fun k => k.src == inBandMsg.srcNode && k.tag == reqTag inBandMsg.request) = none ∧
    (odGet live 0x1100 6 ≠ 0 ∧ odGet (lv [(0x1100, 6, 0)]) 0x1100 6 = 0) := by decide +kernel

/-! ### Witnesses: taps -/

/-- `q0` with a change of the tap, and of the power state. -/
def tap0 (l : List Flight) (f : Tap → Tap) : State := modTap (q0 l) 0 f
def powered (s : State) (f : Power → Power) : State := { s with power := f s.power }

theorem witness_DescriptorStarts :
    (∀ s ∈ [live, q0 [entry dMax], q0 [entry (dBarrier 0)], q0 [entry { dMax with w0 := 0 }]], Shaped s) ∧
    (∀ s ∈ [q0 [entry dMax], q0 [entry (dBarrier 0)], tap0 [entry dMax] (fun y => { y with state := .saving }),
      tap0 [entry dMax] (fun y => { y with holding := true }), { q0 [entry dMax] with resetting := true },
      q0 [{ entry dStep with phase := .running }, entry dMax .queued 1]], ((tapAt s 0).queue.find? fun f => f.phase == .queued).isSome = true) ∧
    (tapAt (tap0 [entry dMax] fun y => { y with state := .saving }) 0).state ≠ .active ∧
    (tapAt (tap0 [entry dMax] fun y => { y with holding := true }) 0).holding = true ∧ { q0 [entry dMax] with resetting := true }.resetting = true ∧
    stepFence (tapAt (q0 [{ entry dStep with phase := .running }, entry dMax .queued 1]) 0) 1 = true ∧
    (∀ s ∈ [q0 [entry dMax], q0 [entry (dBarrier 0)]], (tapAt s 0).state = .active ∧ (tapAt s 0).holding = false ∧ s.resetting = false ∧
      stepFence (tapAt s 0) 0 = false ∧ fabricAsleep s = false ∧ s.power.common = true ∧ (∀ k ∈ activePlanes s, s.power.planes.getLsbD k = true) ∧
      activePlanes s = [0] ∧ (flightAt s 0 0).isSome = true) ∧
    fabricAsleep (powered (q0 [entry dMax]) fun p => { p with state := .dormant }) = true ∧
    ((powered (q0 [entry dMax]) fun p => { p with common := false }).power.common = false) ∧
    (∃ k ∈ activePlanes (powered (q0 [entry dMax]) fun p => { p with planes := 0 }),
      (powered (q0 [entry dMax]) fun p => { p with planes := 0 }).power.planes.getLsbD k = false) ∧
    (startCheck live 0 (entry dMax) = .start ∧ dMax.isData = true ∧ takesSlot dDrain = true ∧ startCheck live 0 (entry dDrain) = .start ∧
      (freeSlot (tapAt (q0 [entry dDrain]) 0)).isSome = true) ∧
    (startCheck live 0 (entry (dBarrier 0)) = .start ∧ (dBarrier 0).op = 6 ∧ (dBarrier 0).orderCq = false) := by
  refine ⟨shaped_all (by decide +kernel), ?_⟩
  decide +kernel
/-- DescriptorStarts: a descriptor that is refused. -/
theorem witness_refused : startCheck live 0 (entry { dExact with w0 := dExact.w0 ||| 0x3000000000 }) = .refuse 0x0008 0x0024 := by decide +kernel

/-- A memory request of entry 0 of tap 0, and a tap with one entry and its requests. -/
def memReq (tag : Option Nat) (r : MemRole) (w : Bool) : MemReq :=
  { tag := tag, id := 0, role := r, addr := 64, lines := 1, skip := 4, write := w, data := if w then List.replicate 64 0 else [] }
def memTap (f : Flight) (l : List MemReq) : State := tap0 [f] fun y => { y with mem := l, recQ := if f.phase == .recording then [0] else [] }
def recording : Flight := { entry dMax .recording with record := List.replicate 8 0 }
def read2 : State := memTap (running dMax) [memReq (some 1) (.source 0) false, memReq (some 2) (.source 64) false]
def write2 : State := memTap (entry dMax .settling) [memReq (some 1) .dst true, memReq (some 2) .dst true]
def write1 : State := memTap recording [memReq (some 1) .record true]
theorem witness_MemoryResponses :
    (∀ s ∈ [live, read2, write2, write1], Shaped s) ∧ (memOf (tapAt live 0) 1 false = none ∧ memOf (tapAt live 0) 1 true = none) ∧
    (memOf (tapAt read2 0) 1 false = some (memReq (some 1) (.source 0) false) ∧ flightAt read2 0 0 = some (running dMax) ∧
      (running dMax).phase = .running ∧ (running dMax).failing = false ∧ readsLeft (tapAt (memDone read2 0 1) 0) 0 = true ∧ dMax.isPlane = true) ∧
    (memOf (tapAt write2 0) 1 true = some (memReq (some 1) .dst true) ∧ writesLeft (tapAt (memDone write2 0 1) 0) 0 = true) ∧
    (memOf (tapAt write1 0) 1 true = some (memReq (some 1) .record true) ∧ flightAt write1 0 0 = some recording ∧
      ∀ q ∈ (tapAt (memDone write1 0 1) 0).mem, q.role ≠ .record) := by
  refine ⟨shaped_all (by decide +kernel), ?_⟩
  decide +kernel
/-- A running DIGEST, and the writes of a result while its entry runs. -/
def digest : Flight := { entry (desc 8 0 1 0 0 1 1 2 0 0x4000 0x5000 0 0) .running with planes := [] }
def writeRun : State := memTap (running dMax) [memReq (some 1) .dst true]
/-- MemoryResponses: the package ports, a failed read of an operation on no plane, and a failed write. -/
theorem witness_MemoryResponses_failed :
    Shaped pool ∧ (pool.params.leafQuerns ≤ 3 ∧ 3 < pool.params.memPorts) ∧
    (memOf (tapAt (memTap digest [memReq (some 1) (.source 0) false]) 0) 1 false = some (memReq (some 1) (.source 0) false) ∧
      flightAt (memTap digest [memReq (some 1) (.source 0) false]) 0 0 = some digest ∧ digest.desc.isPlane = false ∧ digest.phase = .running ∧
      digest.failing = false) ∧
    (memOf (tapAt writeRun 0) 1 true = some (memReq (some 1) .dst true) ∧ flightAt writeRun 0 0 = some (running dMax) ∧
      (running dMax).phase = .running ∧ (running dMax).writeFail = none ∧ (running dMax).status ≠ 2) ∧
    (flightAt write2 0 0 = some (entry dMax .settling) ∧ (entry dMax .settling).writeFail = none) := by
  refine ⟨shaped_of (by decide +kernel), ?_⟩
  decide +kernel

/-- Tap 0 draining a bucket of two tiles. -/
def drain (d : DrainState) : Flight := { running dDrain2 with drain := d }
def wanting : DrainState := { wanted := true, next := 1, limit := 1000, held := [0] }
def beating : DrainState := { wanted := true, next := 2, reading := some 0, limit := 1000, held := [0, 1] }
def offered : State := { q0 [{ entry dMax .offering with record := List.replicate 8 0 }] with handoverQ := [(0, 0)], handoverSeq := 0xFFFF }
theorem witness_DrainsAndHandover :
    (∀ s ∈ [live, q0 [drain wanting], q0 [drain beating], offered], Shaped s) ∧ draining (tapAt live 0) = none ∧
    (∀ d ∈ [drain wanting, drain beating, drain { wanting with settled := true }], draining (tapAt (q0 [d]) 0) = some d ∧ flightAt (q0 [d]) 0 0 = some d) ∧
    (wanting.wanted = true ∧ wanting.settled = false ∧ wanting.reading = none ∧ wanting.next < tileCount dDrain2) ∧
    (beating.reading = some 0 ∧ beating.beats.length + 1 < tileBytes dDrain2 / 256) ∧
    (999 < wanting.limit ∧ { wanting with settled := true }.settled = true ∧ { wanting with reading := some 0 }.reading = some (wanting.next - 1) ∧
      wanting.next ≠ 0) ∧ { wanting with wanted := false }.wanted = false ∧
    (wanting.limit ≤ 1000 ∧ wanting.reading ≠ some (wanting.next - 1) ∧ dDrain2.isPlane = true ∧ (drain wanting).phase ≠ .replanWait) ∧
    live.handoverQ = [] ∧ offered.handoverQ = [(0, 0)] := by
  refine ⟨shaped_all (by decide +kernel), ?_⟩
  decide +kernel

/-- An entry in REPLAN_WAIT; the entry that bucket 1 of step 1 has at tap 0. -/
def waiting : Flight := { running dMax with phase := .replanWait, failed := some someFail }
def inFlight (s : State) : Option Flight := (tapAt s 0).queue.find? fun f =>
  f.desc.isPlane && f.desc.bucket == (1 : U32) && f.desc.step == (1 : U64) && (f.phase == .running || f.phase == .waitArrive)
theorem witness_TapTimeouts :
    (∀ f ∈ [running dMax, { running dMax with delivered := [0] }, { running dMax with aborts := [(0, someFail)] }],
      inFlight (q0 [f]) = some f ∧ flightAt (q0 [f]) 0 f.id = some f) ∧
    (1999 < 2 * limitOf (running dMax).limits (crossesAdit (q0 [running dMax])) ∧
      2 * limitOf (running dMax).limits (crossesAdit (q0 [running dMax])) ≤ 2000) ∧
    (∀ k ∈ ([0] : List Nat), [0].contains k = true) ∧ (∀ k ∈ ([0] : List Nat), (assocGet k [(0, someFail)]).isSome = true) ∧
    (∃ k ∈ (running dMax).planes, (running dMax).delivered.contains k = false ∧ assocGet k (running dMax).aborts = none) ∧
    inFlight live = none ∧ inFlight (q0 [waiting]) = none ∧ (0 < odGet live 0x7010 2 ∧ odGet live 0x7010 2 ≤ 10000000) ∧
    ((tapAt (q0 [waiting]) 0).queue.find? fun f => f.desc.bucket == (1 : U32) && f.desc.step == (1 : U64) && f.phase == .replanWait) = some waiting ∧
    flightAt (q0 [waiting]) 0 0 = some waiting ∧ waiting.failed = some someFail := by
  decide +kernel

theorem witness_TailraceAtTap :
    (∀ s ∈ [live, q0 [running dMax], q0 [{ running dMax with results := [0] }], q0 [running dStep]], Shaped s) ∧ (msg .result).plane < 8 ∧
    liveFlight (tapAt live 0) (msg .result) = none ∧
    (∀ f ∈ [running dMax, { running dMax with results := [0] }], liveFlight (tapAt (q0 [f]) 0) (msg .result) = some f ∧ flightAt (q0 [f]) 0 0 = some f ∧
      (msg .result).run = f.run % 8 ∧ (msg .result).plane ∈ f.planes ∧ (msg .result).attempt = planeAttempt f 0 ∧ f.desc.exact = false) ∧
    (liveFlight (tapAt (q0 [running dExact]) 0) (msg .commit) = some (running dExact) ∧ dExact.exact = true ∧ (running dExact).retries = []) ∧
    (liveFlight (tapAt (q0 [running dStep]) 0) { msg .stepRelease with bucket := 3 }).isSome = true ∧ dStep.isData = false ∧
    { running dMax with results := [0] }.results.contains (msg .result).plane = true ∧ (running dMax).results.contains (msg .result).plane = false ∧
    { msg .statsRow with body := .rows [1, 2] }.body = .rows [1, 2] ∧ { msg .statsMerged with body := .merged [1, 2, 3] [4] }.body = .merged [1, 2, 3] [4] := by
  refine ⟨shaped_all (by decide +kernel), ?_⟩
  decide +kernel

theorem witness_RetriesAndAnswersAtTap :
    (liveFlight (tapAt (q0 [running dScaled]) 0) (msg .retry) = some (running dScaled) ∧ flightAt (q0 [running dScaled]) 0 0 = some (running dScaled) ∧
      (running dScaled).retries.contains 0 = false ∧ dScaled.disc = 5 ∧ (running dScaled).aborts = [] ∧ (running dScaled).failing = false ∧
      (running dScaled).phase = .running ∧ (msg .retry).attempt = planeAttempt (running dScaled) 0 ∧ (running dScaled).results.contains 0 = false) ∧
    (liveFlight (tapAt (q0 [running dAuto]) 0) (msg .prepassAnswer) = some (running dAuto) ∧ flightAt (q0 [running dAuto]) 0 0 = some (running dAuto) ∧
      dAuto.auto = true ∧ dAuto.frozen = false ∧ assocGet 0 (running dAuto).answers = none ∧ (msg .prepassAnswer).run = (running dAuto).run % 8) ∧
    (liveFlight (tapAt (q0 [running dMax]) 0) (msg .abort) = some (running dMax) ∧
      resendable (failInfoOf { msg .abort with body := .fail someFail }) = false ∧
      replannable (q0 [running dMax]) (failInfoOf { msg .abort with body := .fail someFail }) = false ∧ 0 ∈ (running dMax).planes) ∧
    (tapBound (tapAt live 0).state = true ∧ (tapAt live 0).contrib = carrierOf live 0 ∧ (tapAt live 1).contrib ≠ carrierOf live 0) ∧
    tapBound (tapAt live 15).state = false := by
  decide +kernel
/-- RetriesAndAnswersAtTap: STATS_PARTIAL for a bucket that the tap holds and for one that it does not, and a lost codeword of an entry that
is still good, of another run, on another plane and of one that has failed. -/
theorem witness_RetriesAndAnswersAtTap_held :
    (running dMax ∈ (tapAt (q0 [running dMax]) 0).queue ∧ inWindow (running dMax) = true ∧ dMax.isPlane = true ∧
      dMax.bucket = (msg .statsPartial).bucket ∧ dMax.step = (msg .statsPartial).step ∧ (running dMax).run % 8 = (msg .statsPartial).run ∧
      (tapAt (q0 [running dMax]) 0).contrib = carrierOf (q0 [running dMax]) 0) ∧
    (∀ f ∈ (tapAt (q0 [running dStep]) 0).queue, f.desc.bucket ≠ (msg .statsPartial).bucket) ∧
    (liveFlight (tapAt (q0 [running dMax]) 0) (msg .result) = some (running dMax) ∧ stillGood (running dMax) = true ∧
      { msg .result with run := 1 }.run ≠ (running dMax).run % 8 ∧ { msg .result with plane := 1 }.plane ∉ (running dMax).planes) ∧
    (liveFlight (tapAt (q0 [{ running dMax with failing := true }]) 0) (msg .result) = some { running dMax with failing := true } ∧
      stillGood { running dMax with failing := true } = false) ∧ liveFlight (tapAt live 0) (msg .result) = none := by
  decide +kernel

/-! ### Witnesses: querns -/

/-- A segment of two lanes on an input of leaf quern 0. -/
def seg (i : Nat) : Message := { msg .segment i with lastSeg := true, body := .lanes [{ val := 1 }, { val := 2 }] [] }
/-- `live` with a change of leaf quern 0. -/
def leaf (f : Quern → Quern) : State := modQuern live 0 f
/-- An open entry of bucket 1, and `live` with it. -/
def open1 : Entry :=
  { bucket := 1, step := 1, plane := 0, attempt := 0, run := 0, agree := some (dMax.agreement 0), bitmap := [0], buf := [(0, msg .segment)], got := [(0, 1)]
    agrees := [(0, dMax.agreement 0)], limits := (1000, 2000), counter := 1 }
def opened (e : Entry) : State := leaf fun y => { y with entries := [e] }
/-- The position while a spare takes it. -/
def switching : State := leaf fun x => { x with server := none, switching := some 3 }

theorem witness_HeadraceAtQuern :
    (∀ s ∈ [live, switching, leaf fun x => { x with entries := List.replicate 255 open1 }], Shaped s) ∧
    { seg 0 with plane := 1 }.plane ∉ planesOf live 0 ∧ ((seg 0).plane ∈ planesOf switching 0 ∧ (quernAt switching 0).switching.isSome = true) ∧
    ((seg 0).plane ∈ planesOf live 0 ∧ (quernAt live 0).switching = none ∧ (quernAt live 0).server.isSome = true ∧ live.inject.armed = false ∧
      (inputAt live 0 0).src ≠ .none ∧ (seg 0).span = (inputAt live 0 0).span ∧ 0 ∉ (quernAt live 0).refusedInputs ∧ (quernAt live 0).waiting = []) ∧
    (findEntry (quernAt live 0) 1 1 0 = none ∧ findClosed (quernAt live 0) 1 1 0 = none ∧ (quernAt live 0).entries.length < 256 ∧
      ∃ c ∈ inputsOf live 0, c.input ≠ 0) ∧
    (isRoot live 0 0 = false ∧ spanHas (inputAt live 0 0).span (carrierOf live 0) = true) ∧
    ((inputAt live 0 5).src = .none ∧ (seg 5).span ≠ (inputAt live 0 1).span ∧ (inputAt live 0 1).src ≠ .none) := by
  refine ⟨shaped_all (by decide +kernel), ?_⟩
  decide +kernel
/-- Leaf quern 0 with a full segment buffer of input 0 under another key, and an entry that has sent its output. -/
def otherKey : Entry := { open1 with bucket := 9, buf := [(0, msg .segment), (0, msg .segment)] }
def headDone : Entry := { open1 with headDone := true, buf := [] }
/-- HeadraceAtQuern: one segment buffer free and none, an upset in a segment that names its agreement set, a segment past the last one, and a
STATS_PASS at an input without the carrier. -/
theorem witness_HeadraceAtQuern_buffers :
    (∀ s ∈ [opened otherKey, opened headDone], Shaped s) ∧ buffersUsed (opened { otherKey with buf := [(0, msg .segment)] }) 0 0 < 2 ∧
    (2 ≤ buffersUsed (opened otherKey) 0 0 ∧ findEntry (quernAt (opened otherKey) 0) 1 1 0 = none ∧ (quernAt (opened otherKey) 0).waiting = []) ∧
    (seg 0).agree = some (dMax.agreement 0) ∧
    (findEntry (quernAt (opened headDone) 0) 1 1 0 = some headDone ∧ headDone.headDone = true ∧ headDone.run = (seg 0).run ∧
      headDone.attempt = (seg 0).attempt ∧ headDone.s0 ≤ (seg 0).seg ∧ bufferedAt headDone 0 (seg 0).seg = none ∧
      buffersUsed (opened headDone) 0 0 < 2) ∧
    (spanHas (inputAt live 0 1).span (carrierOf live 0) = false ∧ (inputAt live 0 1).src ≠ .none) := by
  refine ⟨shaped_all (by decide +kernel), ?_⟩
  decide +kernel

theorem witness_TailraceAtQuern :
    (∀ s ∈ [live, switching, opened open1], Shaped s) ∧ (quernAt switching 0).server = none ∧ (quernAt live 0).server.isSome = true ∧
    answered live 0 (msg .result) = none ∧ answered (opened open1) 0 (msg .result) = some open1 ∧
    ({ msg .result with lastSeg := true }.lastSeg = true ∧ answered (opened open1) 0 { msg .result with lastSeg := true } = some open1) ∧
    (msg .result).lastSeg = false ∧
    ((trailerDesc (leaf fun y => { y with closed := [{ bucket := 1, step := 1, plane := 0, attempt := 0, run := 0, retried := false, counted := true, agree := some (dMax.agreement 0) }] }) 0
      { msg .statsRow with body := .rows [1, 2] }).isSome = true ∧ { msg .statsRow with body := .rows [1, 2] }.body = .rows [1, 2]) ∧
    ((msg .result).plane ∈ planesOf live 0 ∧ { msg .result with plane := 1 }.plane ∉ planesOf live 0) ∧
    (∃ c ∈ inputsOf live 0, c.src = .tap 0) ∧ ∃ c ∈ inputsOf live 1, c.src = .quern 0 := by
  refine ⟨shaped_all (by decide +kernel), ?_⟩
  decide +kernel

/-- Leaf quern 0 with one notice, whose spans are paused for 5000 us. -/
def paused (l : List Span) : State := modQuern (lv [(0x6030, 2, 1)]) 0 fun y => { y with notices := [(5000, l)] }
theorem witness_AbortsPausesAndTimers :
    (∀ s ∈ [live, switching, paused [⟨0, 0⟩], opened open1], Shaped s) ∧ (msg .abort).plane ∈ planesOf live 0 ∧
    { msg .pause with body := .spans [⟨0, 0⟩] }.body = .spans [⟨0, 0⟩] ∧
    (quernAt live 0).notices = [] ∧ (quernAt (paused [⟨0, 0⟩]) 0).notices = [(5000, [⟨0, 0⟩])] ∧ (isLeaf live 0 = true ∧
      odGet (paused [⟨0, 0⟩]) 0x6030 2 = 1) ∧
    findEntry (quernAt live 0) 1 1 0 = none ∧ findEntry (quernAt (opened open1) 0) 1 1 0 = some open1 ∧
    (999 < entryLimit (opened open1) 0 open1 ∧ entryLimit (opened open1) 0 open1 ≤ 1000 ∧ timerRuns (opened open1) 0 open1 = true ∧
      timerRuns (modQuern (opened open1) 0 fun x => { x with notices := [(5000, [⟨1, 0⟩])] }) 0 open1 = false) ∧
    (quernAt switching 0).switching = some 3 ∧ (quernAt switching 0).switching.isSome = true ∧ (quernAt live 0).switching = none := by
  refine ⟨shaped_all (by decide +kernel), ?_⟩
  decide +kernel

/-- `two` with plane 0 in state 2 and every tap holding its starts. -/
def emptied : State := { two [(0x2210, 9, 2)] with taps := live.taps.map fun y => { y with holding := true } }
/-- A report of plane 1, and a child's values on lattice port 1. -/
def report (o r k b : Nat) : Message := { msg .spanReport with plane := 1, span := ⟨b, k⟩, body := .report o r }
theorem witness_SpanReportsAndDrains :
    (0 < live.params.latticePorts ∧ 1 < live.params.latticePorts) ∧ (report 4 0 2 0).body = .report 4 0 ∧
    (inputsFedBy (two []) (.lattice 0) 1 = [] ∧ parentPort (two []) 1 = some (.lattice 0) ∧
      ((report 4 0 2 0).span, 4, 0) = reportOf (two []) (cfg (two [])) 1) ∧
    (∃ c ∈ inputsFedBy (two []) (.lattice 1) 1, (c.2.span, c.2.occ, c.2.rank) = ((report 2 2 1 2).span, 2, 2)) ∧
    (odGet live 0x2200 3 ≠ 1 ∧ odGet (two [(0x2200, 3, 1)]) 0x2200 3 = 1) ∧
    (planeState emptied 0 = 2 ∧ drainedNow emptied 0 = true ∧ planeState live 0 ≠ 2) ∧
    drainedNow (modQuern emptied 0 fun y => { y with entries := [open1] }) 0 = false := by
  decide +kernel

/-! ### Witnesses: arithmetic -/

/-- A segment's payload of three lanes. -/
def lanes3 (first : Nat) (l : List Int) : Payload := { first := first, lanes := l.map fun v => { val := v }, scales := [] }
theorem witness_CombiningArithmetic :
    (desc 2 1 1 0 0 1 1 3 0 0 0 0 0).exact = true ∧ (desc 2 1 1 0 0 1 1 3 0 0 0 0 0).isArg = false ∧
    [(3, lanes3 64 [1, 2, 2 ^ 62]), (1, lanes3 64 [4, -5, 2 ^ 62])] ≠ [] ∧
    ([(3, lanes3 64 [1, 2, 2 ^ 62]), (1, lanes3 64 [4, -5, 2 ^ 62])].map Prod.fst).Nodup ∧
    ∀ x ∈ [(3, lanes3 64 [1, 2, 2 ^ 62]), (1, lanes3 64 [4, -5, 2 ^ 62])], spanHas ⟨0, 2⟩ x.1 = true ∧ x.2.first = 64 ∧ x.2.lanes.length = 3 := by
  decide +kernel
theorem witness_BitwiseAndMaxexpLanes :
    (desc 2 8 0 0 0 1 1 2 0 0 0 0 0).func = 8 ∧ (desc 2 9 0 0 0 1 1 2 0 0 0 0 0).func = 9 ∧ (desc 2 10 0 0 0 1 1 2 0 0 0 0 0).func = 10 ∧
    (desc 2 11 0 0 0 1 1 2 0 0 0 0 0).func = 11 := by decide +kernel

/-- CombiningArithmetic, beside EXACT: a list and its reverse; a magnitude below the limit of the grid and one above; values that round
within a format and past its largest; 1.0 + 1.0 = 2.0 in binary32; a block whose scale grows and one whose scale stays. -/
theorem witness_CombiningArithmetic_rounding :
    ((lanes3 64 [1, 2, 3]).lanes ≠ [] ∧ [(3, lanes3 64 [1]), (1, lanes3 64 [2])].Perm [(1, lanes3 64 [2]), (3, lanes3 64 [1])]) ∧
    0xFFFFFFFF < 2 ^ 32 ∧ ((⟨false, 6, 0⟩ : Dy).m ≠ 0 ∧ (⟨false, 6, 0⟩ : Dy).atLeast 3 = false ∧ (⟨true, 16, 0⟩ : Dy).atLeast 3 = true) ∧
    (∀ f ∈ [0, 1, 2, 3, 4, 15], aboveLargest (fmtTy f) (roundMag (fmtTy f) .rne ⟨false, 6, 0⟩).1 (roundMag (fmtTy f) .rne ⟨false, 6, 0⟩).2 = false ∧
      aboveLargest (fmtTy f) (roundMag (fmtTy f) .rne ⟨false, 1, 2000⟩).1 (roundMag (fmtTy f) .rne ⟨false, 1, 2000⟩).2 = true) ∧
    sideVal { nan := true } (.fin ⟨false, 1, 0⟩) = .nan ∧ sideVal { pinf := true, ninf := true } (.fin ⟨false, 1, 0⟩) = .nan ∧
    (ofF32 0x3F800000 = .fin ⟨false, 2 ^ 23, -23⟩ ∧ ofF32 0x40000000 = .fin ⟨false, 2 ^ 23, -22⟩ ∧ 0x40000000 < 2 ^ 32 ∧
      (addDy ⟨false, 2 ^ 23, -23⟩ ⟨false, 2 ^ 23, -23⟩).neg = false ∧
      magLt (2 ^ 23) (-22) (addDy ⟨false, 2 ^ 23, -23⟩ ⟨false, 2 ^ 23, -23⟩).m (addDy ⟨false, 2 ^ 23, -23⟩ ⟨false, 2 ^ 23, -23⟩).e = false ∧
      magLt (addDy ⟨false, 2 ^ 23, -23⟩ ⟨false, 2 ^ 23, -23⟩).m (addDy ⟨false, 2 ^ 23, -23⟩ ⟨false, 2 ^ 23, -23⟩).e (2 ^ 23) (-22) = false) ∧
    (∀ f ∈ [5, 6, 7, 8, 9, 10], blockOver (fmtTy f) 0 [(⟨false, 1, -3⟩, .rne)] = false ∧ blockOver (fmtTy f) 0 [(⟨false, 1, 40⟩, .rne)] = true ∧
      (growBlock (fmtTy f) 0 [(⟨false, 1, 40⟩, .rne)]).2.2 = false ∧ -127 ≤ (0 : Int) ∧ 0 ≤ scaleLimit (fmtTy f)) := by
  refine ⟨⟨by decide +kernel, List.Perm.swap _ _ _⟩, ?_⟩
  decide +kernel

/-! ### Witnesses: time -/

/-- A time child whose parent is lattice port 0, in ACTIVE; `live` with a GTC. -/
def child : State :=
  modLat { withOd (withCfg base [(0x2210, 1, 1), (0x2210, 4, 0x100)]) [(0x2210, 9, 1)] with power := { base.power with common := true, planes := 3 } } 0
    fun y => { y with state := .active }
def gtcOf (s : State) (g : Gtc) : State := { s with gtc := g }
theorem witness_TicksAndTimeMessages :
    (live.testAcc.mode = false ∧ live.launch ≠ .armed) ∧
    ({ live with testAcc := { mode := true, wir := 5 } }.testAcc.mode = true ∧ { live with testAcc := { mode := true, wir := 5 } }.testAcc.wir = 5) ∧
    (999 < odGet live 0x6040 8 ∧ odGet live 0x6040 8 ≤ 1000) ∧ (timeRole live).2 = none ∧ timeRole child = (false, some (.lattice 0)) ∧
    (child.power.state ≠ .dormant ∧ { child with power := { child.power with state := .dormant } }.gtc.exchanges = 0 ∧
      (gtcOf child { exchanges := 1 }).gtc.exchanges ≠ 0) ∧
    (portUp child (.lattice 0) = true ∧ portUp (modLat child 0 fun y => { y with state := .down }) (.lattice 0) = false) ∧
    ((timeRole child).2 = some (.lattice 0) ∧ (timeRole child).2 ≠ some (.lattice 1) ∧
      portUp (modLat child 1 fun y => { y with state := .active }) (.lattice 1) = true) ∧
    ((2 = 0 ∨ 2 = 2 ∨ 2 = 3) ∧ (1 ≠ 0 ∧ 1 ≠ 2 ∧ 1 ≠ 3)) ∧ (child.gtc.outstanding.contains 3 = false ∧ (gtcOf child { outstanding := [0, 3] }).gtc.outstanding.contains 3 = true) := by
  decide +kernel

/-- A time child in LOCKED at the end of a window of samples. -/
def locked (theta : Int) (o : List (Nat × Nat × Nat)) : State :=
  gtcOf (withOd child o) { child.gtc with state := .locked, exchanges := 8, parent := odGet child 0x6040 6, count := 0xFFFFFFFF
                                          samples := [⟨theta, 5000, 9, 7⟩] }
def silentWindow : State := gtcOf child { child.gtc with state := .locked, exchanges := 8, parent := odGet child 0x6040 6, badWindows := 1 }
def holdover (o : List (Nat × Nat × Nat)) : State := gtcOf (withOd child o) { child.gtc with state := .holdover }
def armedAt (count : U64) : State := { lv [(0x6050, 1, 50000)] with launch := .armed, gtc := { count := count } }
theorem witness_ServoAndLaunch :
    live.gtc.exchanges < 8 ∧
    (∀ s ∈ [locked 1000 [], locked 1001000000 [], silentWindow], 8 ≤ s.gtc.exchanges ∧ (timeRole s).1 = false ∧
      odGet s 0x6040 6 = s.gtc.parent ∧ s.gtc.state = .locked) ∧
    ((bestSample (locked 1000 []).gtc.samples).isSome = true ∧ odGet (locked 1000 []) 0x6040 0xD ≠ 1) ∧
    (∀ x ∈ (bestSample (locked 1000 []).gtc.samples).toList, (x.theta.natAbs : Int) ≤ odGet (locked 1000 []) 0x6040 0xA * 1000) ∧
    (∀ x ∈ (bestSample (locked 1001000000 []).gtc.samples).toList,
      (odGet (locked 1001000000 []) 0x6040 0xA * 1000 : Int) < x.theta.natAbs) ∧
    (silentWindow.gtc.samples = [] ∧ silentWindow.gtc.badWindows = 1) ∧
    ((locked 1000 [(0x6040, 0xD, 1)]).gtc.state = .locked ∧ odGet (locked 1000 [(0x6040, 0xD, 1)]) 0x6040 0xD = 1 ∧
      { silentWindow with gtc := { silentWindow.gtc with state := .acquire } }.gtc.state = .acquire) ∧
    ((holdover []).gtc.state = .holdover ∧ odGet (holdover []) 0x6040 0xD = 0 ∧ 0 < odGet (holdover []) 0x6040 0xB ∧
      odGet (holdover [(0x6040, 0xD, 1)]) 0x6040 0xD ≠ 0) ∧
    ((armedAt 50000).launch = .armed ∧ odGet (armedAt 50000) 0x6050 1 ≤ (gtcNow (armedAt 50000)).toNat) ∧
    (gtcNow (armedAt 49999)).toNat < odGet (armedAt 49999) 0x6050 1 ∧
    odGet (armedAt 30000) 0x6050 1 ≤ (gtcNow (armedAt 30000)).toNat + 20000 ∧
    (gtcNow (armedAt 29999)).toNat + 20000 < odGet (armedAt 29999) 0x6050 1 := by
  decide +kernel

/-! ### Witnesses: lattice -/

/-- `live` with lattice port 1 changed. -/
def lat (f : LatPort → LatPort) : State := modLat live 1 f
/-- Eight lanes that have all seen lane blocks of phase 3. -/
def seen : List LaneSeen :=
  (List.range 8).map fun i => { signal := true, seen := true, lane := i, node := 7, port := 3, phase := 3, rxReady := true, width := 8, rxGood := 255 }
def trained : State := lat fun x => { x with state := .training, phase := 3, train := 2, lanes := seen }
def blockBytes : List Byte := trainBytes { lane := 0, rxReady := true, phase := 0, width := 8, node := 7, port := 3, rxGood := 255, fresh := true }
theorem witness_LatticeLanesAndTraining :
    (∀ s ∈ [live, lat fun x => { x with state := .quiet }, trained], Shaped s ∧ (latAt s 1).lanes.length = 8) ∧ 1 < live.params.latticePorts ∧
    (∀ x ∈ [LatState.disabled, .absent, .training, .active, .recovering, .down, .misconnected, .quiet, .test],
      (latAt (lat fun y => { y with state := x }) 1).state = x) ∧
    (latAt (lat fun x => { x with state := .training }) 1).closedAt = [] ∧ (0xFF : BitVec 8) = 0xFF ∧ trainOf [] = none ∧
    (trainOf blockBytes).isSome = true ∧ (latAt live 1).phase < 3 ∧ 3 ≤ (latAt trained 1).phase ∧
    latOd trained 1 0xB ≤ min (trainFind trained 1).rxWidth (trainFind trained 1).txWidth ∧
    min (trainFind (lat fun x => { x with state := .training, phase := 3, train := 2 }) 1).rxWidth
      (trainFind (lat fun x => { x with state := .training, phase := 3, train := 2 }) 1).txWidth < latOd live 1 0xB ∧
    latQuietOk (latAt (lat fun x => { x with state := .active }) 1) = true ∧ latQuietOk (latAt (lat fun x => { x with state := .down }) 1) = false ∧
    { live with power := { live.power with state := .dormant } }.power.state = .dormant := by
  refine ⟨fun s h => ⟨shaped_all (l := [live, lat fun x => { x with state := .quiet }, trained]) (by decide +kernel) s h, ?_⟩, ?_⟩
  · exact (by decide +kernel : ∀ s ∈ [live, lat fun x => { x with state := .quiet }, trained], (latAt s 1).lanes.length = 8) s h
  · decide +kernel

/-- Lattice port 1 in a state, with a signal on some lanes, lanes 0 and 1 in use to receive. -/
def signals (x : LatState) (l : List Nat) (f : LatPort → LatPort) : State :=
  withOd (lat fun y => f { y with state := x, lanes := (List.range 8).map fun i => { signal := l.contains i } }) [(0x4001, 8, 0x300)]
/-- LatticeLanesAndTraining, a loss: of every lane in TRAINING, kept or not, on a port with planes and without, in a retrain that is to go on
or has failed; of a lane in use and of one that is not. -/
theorem witness_LatticeLanesAndTraining_loss :
    (∀ s ∈ [signals .training [0] id, signals .active [0, 5] id], Shaped s ∧ (latAt s 1).lanes.length = 8) ∧
    (∀ i, i < 8 → (1 : BitVec 8).getLsbD i = true ∨ ((latAt (signals .training [0] id) 1).lanes.getD i {}).signal = false) ∧
    ((latAt (signals .training [0] fun y => { y with closedAt := [(0, 1)] }) 1).closedAt ≠ [] ∧ (latAt (signals .training [0] id) 1).closedAt = []) ∧
    (portPlanes (signals .active [0] id) (.lattice 1) = [] ∧ portPlanes (withCfg (signals .active [0] id) [(0x2210, 4, 0x101)]) (.lattice 1) ≠ []) ∧
    ((latAt (signals .recovering [0] fun y => { y with train := 1 }) 1).train < 2 ∧ 2 ≤ (latAt (signals .recovering [0] fun y => { y with train := 2 }) 1).train) ∧
    (∃ i, i < 8 ∧ (1 : BitVec 8).getLsbD i = false ∧ ((latAt (signals .active [0, 5] id) 1).lanes.getD i {}).signal = true) ∧
    (bitsOf (latOd (signals .active [0, 5] id) 1 8) 15 8 &&& (1 : BitVec 8).toNat ≠ 0 ∧
      bitsOf (latOd (signals .active [0, 5] id) 1 8) 15 8 &&& (0x20 : BitVec 8).toNat = 0) ∧
    ((latAt (lat fun y => { y with state := .active, heard := true }) 1).heard = true ∧
      (latAt (lat fun y => { y with state := .active, heard := false }) 1).heard = false ∧
      idleOnly (latAt (lat fun y => { y with state := .active }) 1) = true ∧
      idleOnly (latAt (lat fun y => { y with state := .active, lcfDue := true }) 1) = false ∧
      (latAt (lat fun y => { y with state := .active }) 1).txIdle = false) := by
  refine ⟨fun s h => ⟨shaped_all (l := [signals .training [0] id, signals .active [0, 5] id]) (by decide +kernel) s h, ?_⟩, ?_⟩
  · exact (by decide +kernel : ∀ s ∈ [signals .training [0] id, signals .active [0, 5] id], (latAt s 1).lanes.length = 8) s h
  · decide +kernel

/-- Lattice port 1 in ACTIVE or another state, expecting SEQ 5, sending SEQ 6 next. -/
def linkIn (x : LatState) (f : LatPort → LatPort) : State := lat fun y => f { y with state := x, expSeq := 5, nextSeq := 6 }
def dataFlit (seq : Nat) : List Byte :=
  flitBytes { seq := seq, epoch := 0, vc := 3, plane := 0, first := true, last := true, len := 8 } (List.replicate 8 1)
def idleFlit : List Byte := flitBytes { seq := 0, epoch := 0, vc := 6, plane := 0, first := false, last := false, len := 0 } []
def onePayload : Flit := { vc := 3, payload := [1] }
def lcfOf6 : LcfInfo := ⟨6, false, List.replicate 8 0, List.replicate 8 0, 0, 0, 0⟩
theorem witness_LatticeFlits :
    (∀ s ∈ [live, linkIn .active id, linkIn .recovering id], Shaped s) ∧ flitsFlow (latAt (linkIn .absent id) 1) = false ∧
    ((latAt (linkIn .active id) 1).state = .active ∧ live.inject.armed = false) ∧
    (latAt (linkIn .active fun y => { y with lcfDue := true }) 1).lcfDue = true ∧
    ((latAt (linkIn .active id) 1).lcfDue = false ∧ (latAt (linkIn .active id) 1).unsent = 0 ∧ (latAt (linkIn .active id) 1).txq = [] ∧
      (latAt (linkIn .active id) 1).retry.length < 2048) ∧
    ((latAt (linkIn .active fun y => { y with txq := [onePayload] }) 1).txq.zipIdx.find? fun f =>
      hasCredit (linkIn .active fun y => { y with txq := [onePayload] }) 1 f.1) = some (onePayload, 0) ∧
    ((latAt (linkIn .active id) 1).rxWaiting = false ∧ (latAt (linkIn .active fun y => { y with rxWaiting := true }) 1).rxWaiting = true ∧
      (latAt (linkIn .active id) 1).txIdle = false ∧ (latAt (linkIn .active fun y => { y with txIdle := true }) 1).txIdle = true ∧
      flitOf [] = none ∧ (latAt (linkIn .recovering id) 1).train = 0) ∧ ((flitOf idleFlit).map fun f => f.1.vc) = some 6 ∧
    (∀ q ∈ [4, 5], ((flitOf (dataFlit q)).map fun f => (f.1.vc, f.1.seq)) = some (3, q)) ∧ seqBehind 4 (latAt (linkIn .active id) 1).expSeq = true ∧
    seqBehind 5 (latAt (linkIn .active id) 1).expSeq = false ∧ (flitsFlow (latAt (linkIn .recovering id) 1) = true ∧ lcfOf6.nak = false) ∧
    (latAt (linkIn .active fun y => { y with lcfDirty := true }) 1).lcfDirty = true ∧
    (latOd live 1 0x10 ≤ 5000 ∧ (latAt (linkIn .active fun y => { y with retry := [onePayload] }) 1).retry ≠ [] ∧
      (latAt (linkIn .active id) 1).noProgress < latOd live 1 0x11) ∧
    ((latAt (linkIn .recovering fun y => { y with recoverLimit := 5000 }) 1).recoverLimit ≤ 5000 ∧
      4999 < (latAt (linkIn .recovering fun y => { y with recoverLimit := 5000 }) 1).recoverLimit) := by
  refine ⟨shaped_all (by decide +kernel), ?_⟩
  decide +kernel

/-! ### Witnesses: adit -/

/-- Adit port 0 with its addresses set, in a state, sending SEQ 6 next and expecting SEQ 5. -/
def aditWith (x : AditState) (f : AditPort → AditPort) : State :=
  modAdit (lv [(0x4100, 7, 5), (0x4100, 8, 6), (0x4100, 0xF, 1)]) 0 fun y => f { y with state := x, linkUp := true, nextSeq := 6, ack := 5 }
/-- The frame configuration of the peer, and the header of one of its frames. -/
def peerCfg : FrameCfg :=
  let c := frameCfg (aditWith .active id) 0
  { c with localMac := c.peerMac, peerMac := c.localMac }
def aditHdr (kind seq flits : Nat) : AditHdr :=
  { aditHdrOf 0 0 0 0 with kind := kind, seq := seq, flits := flits, version := 1, ack := 3, landingFree := 2000, service := true }
def peerHello : HelloBlock := { node := 9, port := 2, peerSeen := true, packOk := true, flitsMax := 32, session := 77 }
def helloFrame : List Byte := frameBytes peerCfg (aditHdr 3 0 0) (helloBytes peerHello)
def dataFrame (seq : Nat) : List Byte :=
  frameBytes peerCfg (aditHdr 1 seq 1) (flitBytes { seq := 0, epoch := 0, vc := 3, plane := 0, first := true, last := true, len := 240 } (List.replicate 240 1))
/-- What a frame is read as: its kind and SEQ, whether its header is in order, how many flits it brings. -/
def frameRead (bs : List Byte) : Option (Nat × Nat × Bool × Option Nat) :=
  (frameOf (frameCfg (aditWith .active id) 0) bs).map fun x =>
    (x.1.kind, x.1.seq, aditHdrOk (hdrBytes (frameCfg (aditWith .active id) 0) bs) x.1, (dataFlits x.1 x.2).map List.length)
theorem witness_AditSessions :
    (∀ s ∈ [live, aditWith .hello id, aditWith .active id], Shaped s) ∧ 0 < live.params.aditPorts ∧
    (∀ x ∈ [AditState.disabled, .absent, .hello, .active, .recovering, .down, .misconnected, .quiet], (aditAt (aditWith x id) 0).state = x) ∧
    (0 < aditOd live 0 0x14 ∧ aditOd live 0 0x14 ≤ 1000000) ∧ frameOf (frameCfg (aditWith .hello id) 0) [] = none ∧
    (frameRead helloFrame).map (fun x => (x.1, x.2.2.1)) = some (3, true) ∧
    ((frameOf (frameCfg (aditWith .hello id) 0) helloFrame).map fun x => (decide (32 ≤ x.2.length), helloOf x.2)) = some (true, peerHello) ∧
    aditIdentOk (aditWith .hello id) 0 peerHello.node peerHello.port = true ∧
    ((aditAt (aditWith .active fun y => { y with dirty := true }) 0).dirty = true ∧ (aditAt (aditWith .active id) 0).dirty = false ∧
      2 < aditOd live 0 0x12 ∧ aditOd live 0 0x12 ≤ 1000000) ∧ (0 < aditOd live 0 0x13 ∧ aditOd live 0 0x13 ≤ 1000000) ∧
    ((aditAt (aditWith .recovering fun y => { y with recoverLimit := 1000 }) 0).recoverLimit ≤ 1000 ∧
      999 < (aditAt (aditWith .recovering fun y => { y with recoverLimit := 1000 }) 0).recoverLimit) ∧
    aditQuietOk (aditAt (aditWith .active id) 0) = true ∧ aditQuietOk (aditAt (aditWith .hello id) 0) = false := by
  refine ⟨shaped_all (by decide +kernel), ?_⟩
  decide +kernel

/-- A frame of the ring. -/
def ringFrame (q : Nat) : AditFrame :=
  { seq := q, epoch := 0, service := true, plane := 0, packed := false, flits := [{ vc := 3, payload := List.replicate 240 1 }] }
def sender (f : AditPort → AditPort) : State := aditWith .active fun y => f { y with txq := [{ vc := 3, payload := [1, 2] }], closedFrames := [8] }
theorem witness_AditFrames :
    (∀ s ∈ [live, aditWith .active id, sender id], Shaped s) ∧ frameOf (frameCfg (aditWith .active id) 0) [] = none ∧
    (frameRead (frameBytes peerCfg (aditHdr 2 0 0) [])).map (fun x => (x.1, x.2.2.1)) = some (2, true) ∧
    frameRead (frameBytes peerCfg (aditHdr 1 5 1) []) = some (1, 5, true, none) ∧
    (frameRead (dataFrame 5) = some (1, 5, true, some 1) ∧ frameRead (dataFrame 4) = some (1, 4, true, some 1) ∧
      frameRead (dataFrame 2053) = some (1, 2053, true, some 1)) ∧ (aditAt (aditWith .active id) 0).landing = [] ∧
    (aditBefore 4 5 = true ∧ aditBefore 2053 5 = false ∧ 2048 ≤ aditDist 5 2053 ∧ aditDist 5 2052 < 2048) :=
  ⟨shaped_all (by decide +kernel), by decide +kernel, by decide +kernel, by decide +kernel,
    ⟨by decide +kernel, by decide +kernel, by decide +kernel⟩, by decide +kernel, by decide +kernel⟩
/-- AditFrames: the clauses of the timers, of the sender and of the landing. -/
theorem witness_AditFrames_sender :
    (0 < aditOd live 0 0x15 ∧ aditOd live 0 0x15 ≤ 1000000) ∧
    ((aditAt (sender fun y => { y with ring := [ringFrame 4] }) 0).ring = [ringFrame 4] ∧
      aditLive (aditAt (sender fun y => { y with ring := [ringFrame 4] }) 0) = true ∧ (ringFrame 4).seq ∉ (aditAt (sender id) 0).resend ∧
      0 < aditOd live 0 0x10 ∧ aditOd live 0 0x10 ≤ 1000000) ∧
    ((aditAt (sender id) 0).linkUp = true ∧ (aditAt (sender id) 0).resend = [] ∧
      ((firstFrame (sender id) 0 (streamOrder (sender id) 0)).map fun x => (x.1, mayRetain (sender id) 0 x.2)) = some (8, true) ∧
      ((firstFrame (sender id) 0 (streamOrder (sender id) 0)).map fun x =>
        mayRetain (sender fun y => { y with nextSeq := 2100, ring := [ringFrame 4], peerFree := 255 }) 0 x.2) = some false) ∧
    (firstFrame (aditWith .active id) 0 (streamOrder (aditWith .active id) 0) = none ∧
      (aditAt (aditWith .active fun y => { y with ctrlDue := true }) 0).ctrlDue = true ∧ (aditAt (aditWith .active id) 0).ctrlDue = false) ∧
    ((aditAt (aditWith .active fun y => { y with landing := [ringFrame 4] }) 0).landing = [ringFrame 4] ∧ streamOf (ringFrame 4) = 8 ∧
      aditBefore (ringFrame 4).seq 5 = true ∧ (ringFrame 4).lost = false ∧ (ringFrame 4).service = true) := by
  decide +kernel
/-- A frame of plane 0 with one flit of epoch 1, and a landing that holds it with its clock running or stopped; 2048 frames in the landing. -/
def planeFrame : AditFrame := { ringFrame 4 with service := false, flits := [{ vc := 0, plane := 0, epoch := 1, first := true }] }
def landed (planes : BitVec 8) : State :=
  powered (withCfg (aditWith .active fun y => { y with landing := [planeFrame] }) [(0x2210, 4, 0x200)]) fun p => { p with planes := planes }
def fullLanding : State := aditWith .active fun y => { y with landing := (List.range 2048).map fun i => ringFrame (100 + i) }
/-- AditFrames, the landing: SEQs held already, a full landing, a flit that waits and one that is accepted, and a malformed header. -/
theorem witness_AditFrames_landing :
    (∀ s ∈ [fullLanding, landed 1, landed 0], Shaped s) ∧ (∃ g ∈ fullLanding.adits.head?.toList.flatMap (·.landing), g.seq = 101) ∧
    (2048 ≤ (aditAt fullLanding 0).landing.length ∧ aditBefore 5 5 = false ∧ aditDist 5 5 < 2048 ∧
      ∀ g ∈ (aditAt fullLanding 0).landing, g.seq ≠ 5) ∧
    ((aditAt (landed 1) 0).landing = [planeFrame] ∧ streamOf planeFrame = 0 ∧ planeFrame.lost = false ∧
      flitAccepted (landed 0) 0 planeFrame { vc := 0, plane := 0, epoch := 1, first := true } = false) ∧
    (frameRead (frameBytes peerCfg { aditHdr 2 0 0 with version := 2 } [])).map (fun x => x.2.2.1) = some false ∧
    (∀ x ∈ [AditState.disabled, .absent], (aditAt (aditWith x id) 0).state = x) ∧
    ∀ f ∈ (aditAt (aditWith .active fun y => { y with landing := [ringFrame 9] }) 0).landing, aditBefore f.seq 5 = false := by
  refine ⟨shaped_all (by decide +kernel), ?_⟩
  decide +kernel

/-! ### Witnesses: power, scrubbing, reset and test -/

/-- `live` with its power state changed. -/
def pw (f : Power → Power) : State := powered live f
def starting : State := pw fun p => { p with starting := [none, some 0, some 1], common := false, planes := 0 }
def profileIn (v : Nat) (up ack : Bool) : State := pw fun p => { p with changing := some v, rising := up, vidAck := ack }
theorem witness_PowerEvents :
    (none ∉ live.power.starting ∧ some 1 ∈ starting.power.starting ∧ none ∈ starting.power.starting) ∧
    (planeBusy live 1 = false ∧ planeBusy (modQuern live 0 fun y => { y with entries := [open1] }) 0 = true) ∧
    ((pw fun p => { p with planes := 0 }).power.planes = 0 ∧ (pw fun p => { p with planes := 0 }).power.starting = [] ∧
      ∀ x ∈ (pw fun p => { p with planes := 0 }).taps, tapBusy x = false) ∧
    (live.power.planes ≠ 0 ∧ starting.power.starting ≠ [] ∧ ∃ x ∈ (q0 [running dMax]).taps, tapBusy x = true) ∧
    ((pw fun p => { p with throttle := true }).power.throttle = true ∧ live.power.throttle = false) ∧ live.power.changing = none ∧
    ((profileIn 1 true true).power.changing = some 1 ∧ (profileIn 1 true true).power.vidAck = true ∧ odGet (profileIn 1 true true) 0x7100 2 ≠ 1 ∧
      odGet (profileIn 1 true true) 0x7100 8 < 64) ∧
    ((profileIn 1 true false).power.rising = true ∧ (profileIn 1 true false).power.vidAck = false) ∧
    (odGet (withOd (profileIn 1 true true) [(0x7100, 2, 1)]) 0x7100 2 = 1) ∧
    (dormantOk (powered base fun p => { p with state := .entering }) = true ∧ (powered base fun p => { p with state := .entering }).power.state = .entering) ∧
    (odGet (withOd base [(0x7100, 7, 10)]) 0x7100 7 = 10 ∧ dormantOk (withOd base [(0x7100, 7, 10)]) = true ∧
      (withOd base [(0x7100, 7, 10)]).power.state = .running) ∧
    (odGet live 0x7100 7 = 0 ∧ dormantOk (q0 [running dMax]) = false) ∧ (pw fun p => { p with state := .waking }).power.state = .waking ∧
    live.swapping = false ∧ { live with swapping := true }.swapping = true := by decide +kernel

theorem witness_PowerEvents_waits : mayWait live (.flagSet 15 1) ∧ mayWait live (.ibMessage (.lattice 1) inBandMsg) ∧ mayWait live (.go 1) := by
  refine ⟨?_, ?_, ?_⟩ <;> unfold mayWait <;> decide +kernel

theorem witness_ScrubPasses :
    (∀ s ∈ [live, lat fun x => { x with retry := [onePayload] }], Shaped s) ∧
    ((lv [(0x7F00, 1, 1), (0x7F00, 4, 3)]).params = small ∧ odGet (lv [(0x7F00, 1, 1), (0x7F00, 4, 3)]) 0x7F00 1 = 1 ∧
      (odGet (lv [(0x7F00, 1, 1), (0x7F00, 4, 3)]) 0x7F00 4).testBit 0 = true) ∧ odGet live 0x7F00 1 ≠ 1 ∧
    (latAt (lat fun x => { x with retry := [onePayload] }) 1).retry = [onePayload] := by
  refine ⟨shaped_all (by decide +kernel), ?_⟩
  decide +kernel

theorem witness_ResetPins :
    (∀ s ∈ [live, { live with resetting := true }], Shaped s) ∧ live.testAcc.mode = false ∧ { live with testAcc := { mode := true } }.testAcc.mode = true ∧
    (retained 0x7F00 5 = true ∧ retained 0x3000 5 = false) ∧ live.resetting = false ∧ live.testAcc.needPor = false ∧
    { live with testAcc := { needPor := true } }.testAcc.needPor = true ∧ (latAt live 1).enabled = true ∧
    (live.testAcc.wir ≠ 5 ∧ { live with testAcc := { wir := 5 } }.testAcc.wir = 5 ∧ { live with testAcc := { wir := 3 } }.testAcc.wir = 3) := by
  refine ⟨shaped_all (by decide +kernel), ?_⟩
  decide +kernel

theorem witness_TestAccesses :
    live.testAcc.mode = false ∧ { live with testAcc := { mode := true } }.testAcc.mode = true ∧ 31 < 16 * live.params.latticePorts ∧
    (latAt (lat fun x => { x with state := .test }) (31 / 16)).state = .test := by decide +kernel

/-! ### Witnesses: codecs -/

/-- Header values with every field at its largest. -/
def fullFlit : FlitHdr := { seq := 2 ^ 24 - 1, epoch := 65535, vc := 1, plane := 7, first := true, last := true, len := 240 }
theorem witness_LinkCodecs :
    (fullFlit.fits = true ∧ flitHdrOk (flitWord fullFlit) = true ∧ (List.replicate 240 (7 : Byte)).length = fullFlit.len) ∧
    (msgHdrOf (2 ^ 64 - 1) (2 ^ 64 - 1) (2 ^ 64 - 1) (2 ^ 64 - 1)).fits = true ∧
    (aditHdrOf (2 ^ 64 - 1) (2 ^ 64 - 1) (2 ^ 64 - 1) (2 ^ 64 - 1)).fits = true ∧
    (2 ^ 24 - 1 < 2 ^ 24 ∧ (List.replicate 8 65535).length = 8 ∧ ∀ n ∈ List.replicate 8 65535 ++ List.replicate 8 65535, n < 2 ^ 16) ∧
    (255 < 256 ∧ 2 ^ 64 - 1 < 2 ^ 64 ∧ 65535 < 2 ^ 16 ∧ 2 ^ 32 - 1 < 2 ^ 32 ∧ 7 < 8) ∧
    (List.replicate 16 255).length = 16 ∧ ∀ n ∈ List.replicate 16 255 ++ List.range 16, n < 256 := by decide +kernel

/-- nl_mb_irq follows MB_IRQ, and is low during a block reset (R391, R419). -/
theorem test_mb_irq_pin :
    let s : State := { live with paths := { live.paths with mbIrq := true, mbIrqEn := true } }
    mbIrqPin s = true ∧ mbIrqPin { s with resetting := true } = false := by decide

end Sys2Proof.Tests
end

section
/-! PROOF. Lanes of the order-free functions on U32 patterns (R97). -/

namespace Sys2Proof.Machine

/-- The lane that carries a U32 pattern. -/
def patternLane (a : BitVec 32) : Lane := { val := (a.toNat : Int) }

/-- The pattern with the larger INT32 value (R39). -/
def maxPattern (a b : BitVec 32) : BitVec 32 := if a.toInt < b.toInt then b else a

/-- The operation on U32 patterns that a FUNC of R97 names. -/
def patternOp (func : Nat) : BitVec 32 → BitVec 32 → BitVec 32 :=
  if func = 8 then (· &&& ·) else if func = 9 then (· ||| ·) else if func = 10 then (· ^^^ ·) else maxPattern

/-- What every operation of R97 does, `patternOp` does. -/
theorem patternOp_cases {P : (BitVec 32 → BitVec 32 → BitVec 32) → Prop} (func : Nat) (hand : P (· &&& ·)) (hor : P (· ||| ·))
    (hxor : P (· ^^^ ·)) (hmax : P maxPattern) : P (patternOp func) := by
  unfold patternOp
  split
  · exact hand
  · split
    · exact hor
    · split
      · exact hxor
      · exact hmax

/-- FUNC is AND, OR, XOR or MAXEXP. -/
abbrev isPatternFunc (func : Nat) : Prop := func = 8 ∨ func = 9 ∨ func = 10 ∨ func = 11

/-- The INT32 value of a lane's pattern is that of the bit vector. -/
theorem signedOf_toNat (a : BitVec 32) : signedOf a.toNat 32 = a.toInt := by
  have := a.isLt
  rw [BitVec.toInt_eq_toNat_cond]
  unfold signedOf
  split <;> split <;> omega

theorem maxPattern_comm (a b : BitVec 32) : maxPattern a b = maxPattern b a := by
  unfold maxPattern
  rcases Int.lt_trichotomy a.toInt b.toInt with h | h | h
  · rw [if_pos h, if_neg (Int.lt_asymm h)]
  · rw [BitVec.eq_of_toInt_eq h]
  · rw [if_neg (Int.lt_asymm h), if_pos h]

theorem maxPattern_assoc (a b c : BitVec 32) : maxPattern (maxPattern a b) c = maxPattern a (maxPattern b c) := by
  unfold maxPattern
  by_cases hab : a.toInt < b.toInt <;> by_cases hbc : b.toInt < c.toInt
  · rw [if_pos hab, if_pos hbc, if_pos (Int.lt_trans hab hbc)]
  · rw [if_pos hab, if_neg hbc, if_pos hab]
  · rw [if_neg hab, if_pos hbc]
  · have hac : ¬ a.toInt < c.toInt := by omega
    rw [if_neg hab, if_neg hbc, if_neg hab, if_neg hac]

theorem patternOp_comm (func : Nat) (a b : BitVec 32) : patternOp func a b = patternOp func b a :=
  patternOp_cases (P := fun op => op a b = op b a) func (BitVec.and_comm a b) (BitVec.or_comm a b) (BitVec.xor_comm a b)
    (maxPattern_comm a b)

theorem patternOp_assoc (func : Nat) (a b c : BitVec 32) :
    patternOp func (patternOp func a b) c = patternOp func a (patternOp func b c) :=
  patternOp_cases (P := fun op => op (op a b) c = op a (op b c)) func (BitVec.and_assoc a b c) (BitVec.or_assoc a b c)
    (BitVec.xor_assoc a b c) (maxPattern_assoc a b c)

/-- The four functions of R97 act on the patterns of the lanes. -/
theorem freeLane_patternLane {d : Desc} (h : isPatternFunc d.func) (a b : BitVec 32) :
    freeLane d (patternLane a) (patternLane b) = patternLane (patternOp d.func a b) := by
  rcases h with h | h | h | h
  · simp [freeLane, patternOp, patternLane, h]
  · simp [freeLane, patternOp, patternLane, h]
  · simp [freeLane, patternOp, patternLane, h]
  · have hop : patternOp d.func a b = maxPattern a b := by simp [patternOp, h]
    rw [hop, maxPattern]
    simp only [freeLane, patternLane, h, Int.toNat_natCast, signedOf_toNat]
    split <;> rfl

/-- Settles O49: the lanes are those of `patternOp`, which is commutative and associative. -/
theorem bitwiseAndMaxexpLanes : Obligations.BitwiseAndMaxexpLanes := by
  unfold Obligations.BitwiseAndMaxexpLanes
  intro d a b c
  have value (n : Nat) (hn : isPatternFunc n) (h : d.func = n) :
      (freeLane d (patternLane a) (patternLane b)).val = ((patternOp n a b).toNat : Int) := by
    rw [freeLane_patternLane (h ▸ hn), h]; rfl
  refine ⟨value 8 (by decide), value 9 (by decide), value 10 (by decide), value 11 (by decide), fun h => ?_⟩
  have lanes := freeLane_patternLane h
  constructor
  · exact (lanes a b).trans ((congrArg patternLane (patternOp_comm _ a b)).trans (lanes b a).symm)
  · show freeLane d (freeLane d (patternLane a) (patternLane b)) (patternLane c) =
      freeLane d (patternLane a) (freeLane d (patternLane b) (patternLane c))
    rw [lanes, lanes, lanes, lanes, patternOp_assoc]

end Sys2Proof.Machine
end

section
/-! PROOF. STD_ASSIGN (R71, R72, R401). -/

namespace Sys2Proof.Machine

open Sys2Proof.Safety

/-! ### An object stored for each unit -/

/-- The staged binding that STD_ASSIGN stores for tap `c` (R72, R401). -/
def stdBinding (s : State) (c : Nat) : Nat :=
  if c < odGet s 0x2201 0x08 then
    stdIndex (odGet s 0x2201 0x0E) c (fun j => odGet s 0x2201 (0x02 + j)) (fun j => odGet s 0x2201 (0x08 + j)) (odGet s 0x2201 0x01)
  else 2 ^ 31

/-- The staged bindings of the taps `cs` stored one after the other. -/
def storeBindings (v : Nat → Nat) (cs : List Nat) (s : State) : State := forAll cs s fun a c => odSet a (0x3000 + c) 0x01 (v c)

theorem storeBindings_cons (v : Nat → Nat) (c : Nat) (cs : List Nat) (s : State) :
    storeBindings v (c :: cs) s = storeBindings v cs (odSet s (0x3000 + c) 0x01 (v c)) := rfl

theorem storeBindings_frame (v : Nat → Nat) (cs : List Nat) (s : State) :
    { storeBindings v cs s with od := s.od } = s :=
  forAll_keeps (fun t => { t with od := s.od } = s) cs s _ rfl fun _ _ h => h

/-- Every object but the staged bindings of the taps reads as before. -/
theorem odGet_storeBindings_other (v : Nat → Nat) (cs : List Nat) (s : State) {i sub : Nat} (hsub : sub < 256)
    (h : ∀ c ∈ cs, (i, sub) ≠ (0x3000 + c, 0x01)) : odGet (storeBindings v cs s) i sub = odGet s i sub := by
  induction cs generalizing s with
  | nil => rfl
  | cons c cs ih =>
    rw [storeBindings_cons, ih _ fun d hd => h d (List.mem_cons_of_mem _ hd),
      odGet_odSet_ne _ _ _ _ _ _ (by decide) hsub (h c List.mem_cons_self)]

/-- Each of the taps reads the binding stored for it. -/
theorem odGet_storeBindings_same (v : Nat → Nat) (cs : List Nat) (s : State) {c : Nat} (hc : c ∈ cs) :
    odGet (storeBindings v cs s) (0x3000 + c) 0x01 = v c := by
  induction cs generalizing s with
  | nil => simp at hc
  | cons d cs ih =>
    rw [storeBindings_cons]
    by_cases hcs : c ∈ cs
    · exact ih _ hcs
    · obtain rfl : c = d := by simpa [hcs] using hc
      rw [odGet_storeBindings_other _ _ _ (by decide) fun e he heq => hcs ?_, odGet_odSet_same]
      obtain rfl : c = e := by simpa using heq
      exact he

/-! ### A staged object has been written (R399) -/

/-- A prepared check is discarded. -/
theorem odGet_stagedWritten_status (s : State) (h : odGet s 0x2200 0x03 = 2 ∨ odGet s 0x2200 0x03 = 3) :
    odGet (stagedWritten s) 0x2200 0x03 = 0 := by
  rw [stagedWritten, if_pos (by simpa using h)]
  exact odGet_odSet_same s 0x2200 0x03 0

/-- Every object but EPOCH_STATUS reads as before. -/
theorem odGet_stagedWritten_other (s : State) {i sub : Nat} (hsub : sub < 256) (h : (i, sub) ≠ (0x2200, 0x03)) :
    odGet (stagedWritten s) i sub = odGet s i sub := by
  unfold stagedWritten
  split
  · exact odGet_odSet_ne s 0x2200 0x03 0 i sub (by decide) hsub h
  · rfl

theorem stagedWritten_frame (s : State) : { stagedWritten s with od := s.od, setup := s.setup } = s := by
  unfold stagedWritten
  split <;> rfl

/-! ### STD_ASSIGN -/

theorem doStdAssign_refused {s : State} (ho : stagedOpen s = true) (hr : stdRefused s = true) : doStdAssign s = (s, 5) := by
  simp [doStdAssign, ho, hr]

theorem doStdAssign_stores {s : State} (ho : stagedOpen s = true) (hr : stdRefused s = false) :
    doStdAssign s = (stagedWritten (storeBindings (stdBinding s) (List.range s.params.taps) s), 0) := by
  simp only [doStdAssign, ho, hr]
  rfl

theorem stagedOpen_ready (s : State) (i : Nat) : stagedOpen (ready s i) = stagedOpen s := by
  simp only [stagedOpen, odGet_ready s i 0x2200 0x03 (by decide) (by decide)]

/-- The layout objects read as before once a request has been counted. -/
theorem odGet_layout_ready (s : State) (i : Nat) {j : Nat} (hj : j < 256) : odGet (ready s i) 0x2201 j = odGet s 0x2201 j :=
  odGet_ready s i 0x2201 j hj (by decide)

/-! ### The layout that a request finds (R71, R72)

A layout of more than 24 fields is refused, since no field has width 0 and the widths sum to at most 24. So an accepted one lies in the
subindices that belong to 0x2201, which the count of the request does not touch. -/

/-- `stdRefused` as a function of the layout alone. -/
def layoutRefused (n taps index : Nat) (w fill : Nat → Nat) : Bool :=
  let js := List.range n
  (js.any fun j => w j < 1 || 24 < w j) || 24 < (js.map w).sum || (js.any fun j => 2 ^ w j < fill j)
    || taps < fill 0 || (js.drop 1).foldl (fun p j => p * fill j) 1 ≤ index

theorem stdRefused_eq (s : State) : stdRefused s = layoutRefused (odGet s 0x2201 0x01) s.params.taps (odGet s 0x2201 0x0E)
    (fun j => odGet s 0x2201 (0x02 + j)) (fun j => odGet s 0x2201 (0x08 + j)) := rfl

/-- Numbers of which none is 0 sum to at least how many they are. -/
theorem length_le_sum_of_pos {l : List Nat} (h : ∀ x ∈ l, 1 ≤ x) : l.length ≤ l.sum := by
  induction l with
  | nil => exact Nat.le_refl 0
  | cons x l ih =>
    have hx := h x List.mem_cons_self
    have hl := ih fun y hy => h y (List.mem_cons_of_mem _ hy)
    rw [List.length_cons, List.sum_cons]
    omega

/-- A field of each of more than 24 numbers has width 0, or the widths sum to more than 24. -/
theorem layoutRefused_of_many {n : Nat} (h : 24 < n) (taps index : Nat) (w fill : Nat → Nat) :
    layoutRefused n taps index w fill = true := by
  by_cases hw : ((List.range n).any fun j => w j < 1 || 24 < w j) = true
  · simp only [layoutRefused, hw, Bool.true_or]
  · have hone : ∀ x ∈ (List.range n).map w, 1 ≤ x := by
      intro x hx
      obtain ⟨j, hj, rfl⟩ := List.mem_map.mp hx
      refine Nat.le_of_not_lt fun hlt => hw (List.any_eq_true.mpr ⟨j, hj, ?_⟩)
      rw [decide_eq_true hlt, Bool.true_or]
    have hlen := length_le_sum_of_pos hone
    rw [List.length_map, List.length_range] at hlen
    have hsum : 24 < ((List.range n).map w).sum := by omega
    simp only [layoutRefused, hsum, decide_true, Bool.or_true, Bool.true_or]

theorem any_congr_mem {α : Type} {l : List α} {f g : α → Bool} (h : ∀ a ∈ l, f a = g a) : l.any f = l.any g := by
  induction l with
  | nil => rfl
  | cons a l ih =>
    rw [List.any_cons, List.any_cons, h a List.mem_cons_self, ih fun b hb => h b (List.mem_cons_of_mem _ hb)]

theorem foldl_congr_mem {α β : Type} {l : List α} {f g : β → α → β} (b : β) (h : ∀ b, ∀ a ∈ l, f b a = g b a) :
    l.foldl f b = l.foldl g b := by
  induction l generalizing b with
  | nil => rfl
  | cons a l ih =>
    rw [List.foldl_cons, List.foldl_cons, h b a List.mem_cons_self]
    exact ih _ fun c x hx => h c x (List.mem_cons_of_mem _ hx)

/-- Only the fields that the layout has count. -/
theorem layoutRefused_congr {n : Nat} (taps index : Nat) {w w' fill fill' : Nat → Nat} (hw : ∀ j < n, w j = w' j)
    (hf : ∀ j < n, fill j = fill' j) (h0 : fill 0 = fill' 0) :
    layoutRefused n taps index w fill = layoutRefused n taps index w' fill' := by
  have h1 : ((List.range n).any fun j => w j < 1 || 24 < w j) = (List.range n).any fun j => w' j < 1 || 24 < w' j :=
    any_congr_mem fun j hj => by rw [hw j (List.mem_range.mp hj)]
  have h2 : (List.range n).map w = (List.range n).map w' := List.map_congr_left fun j hj => hw j (List.mem_range.mp hj)
  have h3 : ((List.range n).any fun j => 2 ^ w j < fill j) = (List.range n).any fun j => 2 ^ w' j < fill' j :=
    any_congr_mem fun j hj => by rw [hw j (List.mem_range.mp hj), hf j (List.mem_range.mp hj)]
  have h4 : ((List.range n).drop 1).foldl (fun p j => p * fill j) 1 = ((List.range n).drop 1).foldl (fun p j => p * fill' j) 1 :=
    foldl_congr_mem _ fun p j hj => by rw [hf j (List.mem_range.mp (List.mem_of_mem_drop hj))]
  simp only [layoutRefused, h1, h2, h3, h4, h0]

theorem stdIndex_congr (n c : Nat) {nf : Nat} {w w' fill fill' : Nat → Nat} (hw : ∀ j < nf, w j = w' j)
    (hf : ∀ j < nf, fill j = fill' j) (h0 : w 0 = w' 0) : stdIndex n c w fill nf = stdIndex n c w' fill' nf := by
  unfold stdIndex
  rw [h0]
  refine congrArg Prod.fst (foldl_congr_mem _ fun a j hj => ?_)
  have hj' := List.mem_range.mp (List.mem_of_mem_drop hj)
  simp only [hw j hj', hf j hj']

/-- The count of the request does not change whether the layout is refused. -/
theorem stdRefused_ready (s : State) (i : Nat) : stdRefused (ready s i) = stdRefused s := by
  rw [stdRefused_eq, stdRefused_eq, odGet_layout_ready s i (by decide), odGet_layout_ready s i (by decide), ready_params]
  by_cases hn : 24 < odGet s 0x2201 0x01
  · rw [layoutRefused_of_many hn, layoutRefused_of_many hn]
  · exact layoutRefused_congr _ _ (fun j hj => odGet_layout_ready s i (by omega)) (fun j hj => odGet_layout_ready s i (by omega))
      (odGet_layout_ready s i (by decide))

/-- Nor the bindings of a layout that is not refused. -/
theorem stdBinding_ready {s : State} (hr : stdRefused s = false) (i c : Nat) : stdBinding (ready s i) c = stdBinding s c := by
  have hn : ¬ 24 < odGet s 0x2201 0x01 := fun h => by
    rw [stdRefused_eq, layoutRefused_of_many h] at hr
    exact Bool.noConfusion hr
  unfold stdBinding
  rw [odGet_layout_ready s i (by decide), odGet_layout_ready s i (by decide), odGet_layout_ready s i (by decide),
    stdIndex_congr _ _ (fun j hj => odGet_layout_ready s i (by omega)) (fun j hj => odGet_layout_ready s i (by omega))
      (odGet_layout_ready s i (by decide))]

/-! ### The request -/

/-- Every check of R438 passes. -/
theorem writeCheck_stdAssign {s : State} {p : Path} (hs : Serves s p) : writeCheck s p 0x2201 0x0F (natToBytes 1 1) = 0 := by
  obtain ⟨ht, hp, hpos, hq, hl, ha⟩ := bounds_of_supported hs.supported
  have hrows : rowsOf s.params s.nodeStrap.toNat s.i3cStrap.toNat 0x2201 = rows2201 := by
    simp [rowsOf, inIdx_false (show 0x2201 < 0x2100 ∨ 0x2100 + s.params.querns ≤ 0x2201 by omega)]
  refine writeCheck_ok (r := ⟨0x0F, 0x0F, .enum8, .wo, [0], 1, 1⟩) hs ?_ (.inr (.inr rfl)) rfl ?_ ?_
  · simp only [accessRow, objRow, hrows]
    rfl
  · simp [inRange, objectRange, inIdx, natToBytes, bytesToNat]
  · simp [writable, isStaged, inIdx]

theorem objectRule_stdAssign {s : State} (h : Bounds s.params) (p : Path) (data : List Byte) :
    objectRule s p 0x2201 0x0F data none = doStdAssign s := by
  obtain ⟨ht, hp, hpos, hq, hl, ha⟩ := h
  simp [objectRule, inIdx_false (show 0x2201 < 0x2100 ∨ 0x2100 + s.params.querns ≤ 0x2201 by omega)]

/-- Settles O18: STD_ASSIGN stores a binding for each tap, and then discards a prepared check. -/
theorem standardLayoutRequest : Obligations.StandardLayoutRequest := by
  unfold Obligations.StandardLayoutRequest
  intro s p hs ho
  have hrule : objectRule (ready s 0x2201) p 0x2201 0x0F (natToBytes 1 1) none = doStdAssign (ready s 0x2201) :=
    objectRule_stdAssign (by rw [ready_params]; exact bounds_of_supported hs.supported) _ _
  have ho' : stagedOpen (ready s 0x2201) = true := by rw [stagedOpen_ready, ho]
  refine ⟨fun hr => ?_, fun hr => ?_⟩
  · refine row_declined rfl hs (writeCheck_stdAssign hs) (by decide) (by decide) (hrule.trans ?_)
    exact doStdAssign_refused ho' (by rw [stdRefused_ready, hr])
  · generalize hb : storeBindings (stdBinding (ready s 0x2201)) (List.range (ready s 0x2201).params.taps) (ready s 0x2201) = u
    have hother : ∀ i sub, sub < 256 → (∀ c < s.params.taps, (i, sub) ≠ (0x3000 + c, 0x01)) →
        odGet u i sub = odGet (ready s 0x2201) i sub := by
      intro i sub hsub hne
      rw [← hb]
      exact odGet_storeBindings_other _ _ _ hsub fun c hc => hne c (by simpa using hc)
    refine ⟨stagedWritten u, row_accepted rfl hs (writeCheck_stdAssign hs) (hrule.trans ?_), ?_, ?_, ?_, ?_⟩
    · rw [doStdAssign_stores ho' (by rw [stdRefused_ready, hr]), hb]
    · intro c hc
      rw [odGet_stagedWritten_other u (by decide) (by simp), ← hb,
        odGet_storeBindings_same _ _ _ (by simpa using hc), stdBinding_ready hr]
      rfl
    · intro hst
      refine odGet_stagedWritten_status u ?_
      have hu : odGet u 0x2200 0x03 = odGet s 0x2200 0x03 :=
        (hother 0x2200 0x03 (by decide) fun c _ => by simp).trans (odGet_ready s _ _ _ (by decide) (by decide))
      rwa [hu]
    · intro i sub hsub hmem
      simp only [List.mem_cons, List.mem_map, List.mem_range, not_or, not_exists, not_and] at hmem
      obtain ⟨hstatus, htaps⟩ := hmem
      rw [odGet_stagedWritten_other u hsub hstatus]
      exact hother i sub hsub fun c hc e => htaps c hc e.symm
    · have hu : { u with od := (ready s 0x2201).od } = ready s 0x2201 := by rw [← hb]; exact storeBindings_frame _ _ _
      calc { stagedWritten u with od := s.od, setup := s.setup }
        _ = { u with od := s.od, setup := s.setup } :=
          congrArg (fun t : State => { t with od := s.od, setup := s.setup }) (stagedWritten_frame u)
        _ = { ready s 0x2201 with od := s.od, setup := s.setup } :=
          congrArg (fun t : State => { t with od := s.od, setup := s.setup }) hu
        _ = { ready s 0x2201 with od := s.od } := by rw [← ready_setup s 0x2201]

end Sys2Proof.Machine
end

section
/-! PROOF. What the operations of a tap keep of its queue entries. -/

namespace Sys2Proof.Machine

/-- What a message at a tap leaves in an entry, and what no work on the entry takes back in its run. -/
structure FlightMarks where
  id : Nat
  retried : List Nat
  scales : List (Nat × List Int)
  answers : List (Nat × Int)
  prepassDone : Bool
  aborts : List (Nat × FailInfo)

/-- The marks of an entry. -/
@[simp] def Flight.marks (f : Flight) : FlightMarks := ⟨f.id, f.retried, f.scales, f.answers, f.prepassDone, f.aborts⟩

/-- The marks of the entries of a tap, in order. -/
def queueMarks (s : State) (t : Nat) : List FlightMarks := (tapAt s t).queue.map Flight.marks

/-! ### Operations that leave the taps alone -/

theorem queueMarks_of_taps {s s' : State} (h : s'.taps = s.taps) (u : Nat) : queueMarks s' u = queueMarks s u := by
  simp only [queueMarks, tapAt, h]

@[simp] theorem cnt_taps (s : State) (i sub : Nat) : (cnt s i sub).taps = s.taps := rfl
@[simp] theorem audAdd_taps (s : State) (i sub n : Nat) : (audAdd s i sub n).taps = s.taps := rfl
@[simp] theorem tapUp_taps (s : State) (t : Nat) (m : Message) : (tapUp s t m).taps = s.taps := rfl
@[simp] theorem saveKick_taps (s : State) (t : Nat) : (saveKick s t).taps = s.taps := by
  unfold saveKick
  split <;> rfl

@[simp] theorem sumpPut_taps (s : State) (r : SumpRec) : (sumpPut s r).taps = s.taps := by
  simp only [sumpPut]
  split <;> rfl
@[simp] theorem sumpNow_taps (s : State) (r : SumpRec) (c : Option SumpRec) : (sumpNow s r c).taps = s.taps := by
  have fresh : (sumpNow.sumpFresh s r c).taps = s.taps := by cases c <;> simp [sumpNow.sumpFresh]
  unfold sumpNow
  split
  · split
    · rfl
    · exact fresh
  · exact fresh
@[simp] theorem sumpWrite2_taps (s : State) (r : SumpRec) (c : Option SumpRec) : (sumpWrite2 s r c).taps = s.taps := by
  unfold sumpWrite2
  split
  · rfl
  · exact sumpNow_taps s r c
@[simp] theorem tapFailure_taps (s : State) (t : Nat) (f : Flight) (code plane contrib input : Nat) :
    (tapFailure s t f code plane contrib input).1.taps = s.taps := sumpWrite2_taps ..
theorem tapFailure_code (s : State) (t : Nat) (f : Flight) (code plane contrib input : Nat) :
    (tapFailure s t f code plane contrib input).2.code = code := rfl

/-! ### Changes of a tap and of an entry -/

/-- A tap after a change of some tap: changed or not. -/
theorem tapAt_modTap_cases (s : State) (t u : Nat) (g : Tap → Tap) :
    tapAt (modTap s t g) u = tapAt s u ∨ tapAt (modTap s t g) u = g (tapAt s u) := by
  by_cases h : t = u
  · subst h
    by_cases ht : t < s.taps.length
    · exact .inr (tapAt_modTap_same s t g ht)
    · exact .inl (by simp [tapAt, List.getD_eq_getElem?_getD, ht])
  · exact .inl (tapAt_modTap_other s t u g h)

theorem queueMarks_modTap {g : Tap → Tap} (h : ∀ x, (g x).queue.map Flight.marks = x.queue.map Flight.marks) (s : State) (t u : Nat) :
    queueMarks (modTap s t g) u = queueMarks s u := by
  unfold queueMarks
  rcases tapAt_modTap_cases s t u g with e | e <;> rw [e]
  exact h _

/-- A change that leaves the queue of the tap alone. -/
theorem queueMarks_modTap_queue {g : Tap → Tap} (h : ∀ x, (g x).queue = x.queue) (s : State) (t u : Nat) :
    queueMarks (modTap s t g) u = queueMarks s u := queueMarks_modTap (fun x => by rw [h]) s t u

/-- A change of an entry that keeps its marks. -/
theorem queueMarks_modFlight {g : Flight → Flight} (h : ∀ f, (g f).marks = f.marks) (s : State) (t id u : Nat) :
    queueMarks (modFlight s t id g) u = queueMarks s u := by
  refine queueMarks_modTap (fun x => ?_) s t u
  rw [List.map_map]
  refine List.map_congr_left fun f _ => ?_
  show (if f.id == id then g f else f).marks = f.marks
  split
  · exact h f
  · rfl

theorem queueMarks_onFlight {s s' : State} {t id u : Nat} {g : State → Flight → State}
    (h : ∀ f, queueMarks (g s f) u = queueMarks s' u) (h' : queueMarks s u = queueMarks s' u) :
    queueMarks (onFlight s t id g) u = queueMarks s' u := by
  unfold onFlight
  split
  · exact h _
  · exact h'

theorem queueMarks_ite {c : Prop} [Decidable c] {s s' : State} {u : Nat} {l : List FlightMarks} (h : queueMarks s u = l)
    (h' : queueMarks s' u = l) : queueMarks (if c then s else s') u = l := by
  split
  · exact h
  · exact h'

theorem queueMarks_forAll {α : Type} (l : List α) {f : State → α → State} {u : Nat}
    (h : ∀ s a, queueMarks (f s a) u = queueMarks s u) (s : State) : queueMarks (forAll l s f) u = queueMarks s u :=
  forAll_same (queueMarks · u) l s f h

/-! ### The memory port, records and the end of an entry -/

@[simp] theorem queueMarks_pumpMem (s : State) (t u : Nat) : queueMarks (pumpMem s t) u = queueMarks s u :=
  queueMarks_modTap_queue (by intro; rfl) s t u
@[simp] theorem queueMarks_addMem (s : State) (t : Nat) (rs : List MemReq) (u : Nat) : queueMarks (addMem s t rs) u = queueMarks s u :=
  (queueMarks_pumpMem _ t u).trans (queueMarks_modTap_queue (by intro; rfl) s t u)
@[simp] theorem queueMarks_dropReads (s : State) (t id u : Nat) : queueMarks (dropReads s t id) u = queueMarks s u :=
  queueMarks_modTap_queue (by intro; rfl) s t u

/-- A flag operation changes the mirrors alone. -/
@[simp] theorem queueMarks_flagOp (s : State) (f : Nat) (v : Bool) (u : Nat) : queueMarks (flagOp s f v) u = queueMarks s u := by
  unfold queueMarks tapAt flagOp
  by_cases h : u < s.taps.length <;> simp [List.getD_eq_getElem?_getD, h]
@[simp] theorem queueMarks_applyTail (s : State) (f : Flight) (u : Nat) : queueMarks (applyTail s f) u = queueMarks s u := by
  unfold applyTail
  split
  · exact queueMarks_flagOp ..
  · rfl

@[simp] theorem queueMarks_tryRecord (s : State) (t u : Nat) : queueMarks (tryRecord s t) u = queueMarks s u := by
  simp only [tryRecord]
  split
  · rfl
  · split
    · rfl
    · refine queueMarks_onFlight (fun f => ?_) rfl
      rw [queueMarks_addMem, queueMarks_modFlight (by intro; rfl)]
      split
      · rfl
      · exact queueMarks_applyTail ..

@[simp] theorem queueMarks_toRecord (s : State) (t id u : Nat) : queueMarks (toRecord s t id) u = queueMarks s u := by
  refine queueMarks_onFlight (fun f => ?_) rfl
  rw [queueMarks_tryRecord, queueMarks_modTap_queue (by intro; rfl), queueMarks_modFlight (by intro; rfl)]

@[simp] theorem queueMarks_fenceFlight (s : State) (t id u : Nat) : queueMarks (fenceFlight s t id) u = queueMarks s u := by
  refine queueMarks_onFlight (fun f => ?_) rfl
  split
  · exact queueMarks_modFlight (by intro; rfl) ..
  · exact queueMarks_toRecord ..

theorem onFlight_taps {s : State} {t id : Nat} {g : State → Flight → State} (h : ∀ f, (g s f).taps = s.taps) :
    (onFlight s t id g).taps = s.taps := by
  unfold onFlight
  split
  · exact h _
  · rfl

@[simp] theorem offerNext_taps (s : State) : (offerNext s).taps = s.taps := by
  unfold offerNext offerHead
  split
  · rfl
  · exact onFlight_taps fun _ => rfl

@[simp] theorem queueMarks_settleCheck (s : State) (t id u : Nat) : queueMarks (settleCheck s t id) u = queueMarks s u := by
  refine queueMarks_onFlight (fun f => ?_) rfl
  split
  · rfl
  · split
    · have offering := queueMarks_modFlight (g := fun f => { f with phase := .offering }) (by intro; rfl) s t id u
      dsimp only
      split
      · exact (queueMarks_of_taps (offerNext_taps _) u).trans offering
      · exact offering
    · exact queueMarks_fenceFlight ..

@[simp] theorem queueMarks_releaseTiles (s : State) (t id u : Nat) : queueMarks (releaseTiles s t id) u = queueMarks s u := by
  refine queueMarks_onFlight (fun f => ?_) rfl
  rw [queueMarks_modFlight (by intro; rfl)]
  exact queueMarks_forAll _ (by intros; rfl) s

@[simp] theorem queueMarks_countOut (s : State) (t id : Nat) (ks : List Nat) (u : Nat) :
    queueMarks (countOut s t id ks) u = queueMarks s u := by
  refine queueMarks_onFlight (fun f => ?_) rfl
  rw [queueMarks_modFlight (by intro; rfl)]
  exact queueMarks_forAll _ (fun a k => queueMarks_of_taps (audAdd_taps ..) u) s

@[simp] theorem queueMarks_endError (s : State) (t id : Nat) (e : FailInfo) (u : Nat) :
    queueMarks (endError s t id e) u = queueMarks s u := by
  unfold endError
  rw [queueMarks_settleCheck, queueMarks_modFlight (by intro; rfl)]
  refine (queueMarks_onFlight (fun f => queueMarks_countOut ..) rfl).trans ?_
  rw [queueMarks_dropReads, queueMarks_releaseTiles]

/-! ### Failures that the tap finds, and sending -/

/-- What the tap has given up before the aborts of a bucket that it fails go out. -/
def givenUp (s : State) (t id : Nat) (ks : List Nat) : State := countOut (dropReads (releaseTiles s t id) t id) t id ks

theorem queueMarks_givenUp (s : State) (t id : Nat) (ks : List Nat) (u : Nat) : queueMarks (givenUp s t id ks) u = queueMarks s u := by
  rw [givenUp, queueMarks_countOut, queueMarks_dropReads, queueMarks_releaseTiles]

@[simp] theorem queueMarks_tapFail (s : State) (t id code input u : Nat) : queueMarks (tapFail s t id code input) u = queueMarks s u := by
  refine queueMarks_onFlight (fun f => ?_) rfl
  have failure := queueMarks_of_taps (tapFailure_taps s t f code 0xFF (tapAt s t).contrib input) u
  dsimp only
  split
  · exact (queueMarks_endError ..).trans failure
  · rw [queueMarks_of_taps (saveKick_taps _ _), queueMarks_forAll _ fun s k => queueMarks_of_taps (tapUp_taps s t _) u,
      queueMarks_modFlight (by intro; rfl)]
    exact (queueMarks_givenUp ..).trans failure

@[simp] theorem queueMarks_sendPrepass (s : State) (t id k : Nat) (region : List Byte) (u : Nat) :
    queueMarks (sendPrepass s t id k region) u = queueMarks s u :=
  queueMarks_onFlight (fun _ => rfl) rfl

@[simp] theorem queueMarks_sendChunk (s : State) (t id k : Nat) (region : List Byte) (u : Nat) :
    queueMarks (sendChunk s t id k region) u = queueMarks s u := by
  refine queueMarks_onFlight (fun f => ?_) rfl
  split
  · rfl
  · dsimp only
    split
    · exact queueMarks_tapFail ..
    · refine (queueMarks_forAll _ (by intros; rfl) _).trans ?_
      exact queueMarks_modFlight (by intro; rfl) ..

@[simp] theorem queueMarks_sourceReady (s : State) (t id u : Nat) : queueMarks (sourceReady s t id) u = queueMarks s u := by
  refine queueMarks_onFlight (fun f => ?_) rfl
  split
  · rfl
  · split
    · rw [queueMarks_settleCheck, queueMarks_modFlight (by intro; rfl)]
    · rw [queueMarks_of_taps (saveKick_taps _ _), queueMarks_forAll _ fun _ _ => queueMarks_sendChunk ..,
        queueMarks_forAll _ fun _ _ => queueMarks_sendPrepass .., queueMarks_modFlight (by intro; rfl)]

@[simp] theorem queueMarks_startReads (s : State) (t id u : Nat) : queueMarks (startReads s t id) u = queueMarks s u := by
  refine queueMarks_onFlight (fun f => ?_) rfl
  split
  · rfl
  · rw [queueMarks_sourceReady, queueMarks_addMem, queueMarks_modFlight (by intro; rfl)]

@[simp] theorem queueMarks_wantChunks (s : State) (t id : Nat) (ks : List Nat) (u : Nat) :
    queueMarks (wantChunks s t id ks) u = queueMarks s u :=
  (queueMarks_startReads ..).trans (queueMarks_modFlight (by intro; rfl) ..)

/-! ### Progress of an entry -/

@[simp] theorem queueMarks_commitFlight (s : State) (t id u : Nat) : queueMarks (commitFlight s t id) u = queueMarks s u := by
  refine queueMarks_onFlight (fun f => ?_) rfl
  dsimp only
  split
  · exact queueMarks_endError ..
  · rw [queueMarks_settleCheck, queueMarks_modFlight (by intro; rfl)]
    split
    · exact queueMarks_addMem ..
    · rfl

@[simp] theorem queueMarks_exactRetry (s : State) (t id u : Nat) : queueMarks (exactRetry s t id) u = queueMarks s u := by
  refine queueMarks_onFlight (fun f => ?_) rfl
  dsimp only
  split
  · exact queueMarks_tapFail ..
  · rw [queueMarks_wantChunks, queueMarks_modFlight (by intro; rfl), queueMarks_countOut]

@[simp] theorem queueMarks_progress (s : State) (t id u : Nat) : queueMarks (progress s t id) u = queueMarks s u := by
  refine queueMarks_onFlight (fun f => ?_) rfl
  have noted := fun done => queueMarks_modFlight (g := fun f => { f with delivered := done }) (by intro; rfl) s t id u
  refine queueMarks_ite rfl (queueMarks_ite (noted _) (queueMarks_ite (queueMarks_ite ?_ (noted _))
    (queueMarks_ite (noted _) (queueMarks_ite (queueMarks_ite ?_ (noted _)) (queueMarks_ite ?_ (noted _))))))
  · exact (queueMarks_endError ..).trans (noted _)
  · exact (queueMarks_exactRetry ..).trans (noted _)
  · exact (queueMarks_commitFlight ..).trans (noted _)

end Sys2Proof.Machine
end

section
/-! PROOF. Messages at a tap: retries, answers, aborts, partial statistics and lost codewords (R81, R88, R94, R132, R180, R336, R354). -/

namespace Sys2Proof.Machine

open Sys2Proof.Safety

/-! ### Entries of a tap -/

/-- A tap with an entry is a tap of the state. -/
theorem lt_length_of_mem_queue {s : State} {t : Nat} {f : Flight} (h : f ∈ (tapAt s t).queue) : t < s.taps.length := by
  refine Nat.lt_of_not_le fun ht => ?_
  have hnone : tapAt s t = {} := by rw [tapAt, List.getD_eq_getElem?_getD, List.getElem?_eq_none ht, Option.getD_none]
  rw [hnone] at h
  exact List.not_mem_nil h

theorem mem_queue_of_flightAt {s : State} {t id : Nat} {f : Flight} (h : flightAt s t id = some f) : f ∈ (tapAt s t).queue :=
  List.mem_of_find?_eq_some h

theorem queue_modFlight {s : State} {t : Nat} (ht : t < s.taps.length) (id : Nat) (g : Flight → Flight) :
    (tapAt (modFlight s t id g) t).queue = (tapAt s t).queue.map fun f => if f.id == id then g f else f := by
  rw [modFlight, tapAt_modTap_same _ _ _ ht]

/-- A changed entry stands in the queue. -/
theorem mem_queue_modFlight {s : State} {t : Nat} {f : Flight} (h : f ∈ (tapAt s t).queue) (g : Flight → Flight) :
    g f ∈ (tapAt (modFlight s t f.id g) t).queue := by
  rw [queue_modFlight (lt_length_of_mem_queue h)]
  exact List.mem_map.mpr ⟨f, h, by simp⟩

/-- A changed entry that keeps its name is found again. -/
theorem flightAt_modFlight {s : State} {t id : Nat} {f : Flight} (h : flightAt s t id = some f) {g : Flight → Flight}
    (hg : ∀ f, (g f).id = f.id) : flightAt (modFlight s t id g) t id = some (g f) := by
  have hid : f.id = id := by simpa using List.find?_some h
  rw [flightAt, queue_modFlight (lt_length_of_mem_queue (mem_queue_of_flightAt h)), List.find?_map]
  have hname : ((fun f : Flight => f.id == id) ∘ fun f => if f.id == id then g f else f) = fun f => f.id == id := by
    funext f
    by_cases e : f.id = id <;> simp [e, hg]
  rw [hname, show (tapAt s t).queue.find? (fun f => f.id == id) = some f from h, Option.map_some, hid, if_pos (beq_self_eq_true id)]

theorem onFlight_some {s : State} {t id : Nat} {f : Flight} (h : flightAt s t id = some f) (g : State → Flight → State) :
    onFlight s t id g = g s f := by
  rw [onFlight, h]

/-- Work that keeps the marks of a tap keeps its entries. -/
theorem exists_mem_of_queueMarks {s s' : State} {t : Nat} {f : Flight} (h : queueMarks s' t = queueMarks s t)
    (hf : f ∈ (tapAt s t).queue) : ∃ g ∈ (tapAt s' t).queue, g.marks = f.marks := by
  have hm : f.marks ∈ queueMarks s' t := h ▸ List.mem_map_of_mem hf
  exact List.mem_map.mp hm

/-! ### Lists keyed by a number -/

theorem assocGet_assocPut_same {α : Type} (k : Nat) (v : α) (l : List (Nat × α)) : assocGet k (assocPut k v l) = some v := by
  induction l with
  | nil => simp [assocPut, assocGet]
  | cons p l ih =>
    obtain ⟨j, w⟩ := p
    by_cases h : j = k <;> simp [assocPut, assocGet, h, ih]

theorem mem_insertNat (n : Nat) (l : List Nat) : n ∈ insertNat n l := by
  induction l with
  | nil => simp [insertNat]
  | cons m l ih =>
    unfold insertNat
    split
    · exact List.mem_cons_self
    · split
      next h => exact h ▸ List.mem_cons_self
      next => exact List.mem_cons_of_mem _ ih

/-! ### A tailrace message for a live entry -/

/-- An entry that has taken a tailrace message: the marks and the chunk boundaries that every message brings. -/
def Flight.heard (m : Message) (f : Flight) : Flight := { f with
  paused := f.paused || m.paused, outRange := f.outRange || m.outRange
  chunks := match m.chunk with | some c => assocPut m.plane (c.1, c.1 + c.2) f.chunks | none => f.chunks }

/-- The entry takes the message: of its run, of one of its planes and, but for an ABORT, of the plane's attempt. -/
structure Takes (s : State) (t : Nat) (m : Message) (f : Flight) : Prop where
  live : liveFlight (tapAt s t) m = some f
  entry : flightAt s t f.id = some f
  run : m.run = f.run % 8
  plane : m.plane ∈ f.planes
  attempt : m.code = .abort ∨ m.attempt = planeAttempt f m.plane

theorem onTailrace_takes {s : State} {t : Nat} {m : Message} {f : Flight} (h : Takes s t m f) (g : State → Flight → State) :
    onTailrace t m s g = g (modFlight s t f.id (Flight.heard m)) (f.heard m) := by
  have hpass : (m.run != f.run % 8 || !f.planes.contains m.plane || (m.code != .abort && m.attempt != planeAttempt f m.plane)) = false := by
    rcases h.attempt with ha | ha <;> simp [h.run, h.plane, ha]
  simp only [onTailrace, h.live, hpass]
  exact onFlight_some (flightAt_modFlight (g := Flight.heard m) h.entry (by intro; rfl)) g

/-- The entry that has taken the message stands in the queue. -/
theorem Takes.heard_mem {s : State} {t : Nat} {m : Message} {f : Flight} (h : Takes s t m f) :
    f.heard m ∈ (tapAt (modFlight s t f.id (Flight.heard m)) t).queue :=
  mem_queue_modFlight (mem_queue_of_flightAt h.entry) _

/-! ### RETRY, PREPASS_ANSWER and ABORT -/

/-- An entry of which a plane runs again with the scales that a RETRY brings (R81, R89). -/
def Flight.retriedBy (m : Message) (f : Flight) : Flight := { f with
  retried := insertNat m.plane f.retried, scales := assocPut m.plane m.body.scaleList f.scales, retryRan := true }

/-- An entry of descriptor `d` that has the answer to the pre-pass of a plane (R94). -/
def Flight.answeredBy (d : Desc) (m : Message) (f : Flight) : Flight := { f with
  answers := assocPut m.plane m.maxexp f.answers, prepassDone := true
  scales := if d.disc == 5 then assocPut m.plane m.body.scaleList f.scales else f.scales }

/-- An entry that keeps the first abort of each plane (R132). -/
def Flight.abortedBy (m : Message) (f : Flight) : Flight := { f with
  aborts := if (assocGet m.plane f.aborts).isSome then f.aborts else assocPut m.plane (failInfoOf m) f.aborts }

theorem assocGet_abortedBy (m : Message) (f : Flight) : (assocGet m.plane (f.abortedBy m).aborts).isSome = true := by
  unfold Flight.abortedBy
  split
  · assumption
  · exact Option.isSome_iff_exists.mpr ⟨_, assocGet_assocPut_same ..⟩

/-- RETRY of a SCALED bucket on a plane that has not delivered. -/
theorem doTapRetry_scaled {s : State} {t : Nat} {m : Message} {f : Flight} (h : Takes s t m f) (hres : f.results.contains m.plane = false)
    (hret : f.retries.contains m.plane = false) (hdisc : f.desc.disc = 5) (hab : f.aborts = []) (hfail : f.failing = false)
    (hph : f.phase = .running) : ∃ g ∈ (tapAt (doTapRetry t m s) t).queue,
      g.id = f.id ∧ m.plane ∈ g.retried ∧ assocGet m.plane g.scales = some m.body.scaleList := by
  have hrun : doTapRetry t m s =
      wantChunks (modFlight (modFlight s t f.id (Flight.heard m)) t f.id (Flight.retriedBy m)) t f.id [m.plane] := by
    rw [doTapRetry, onTailrace_takes h]
    simp only [Flight.heard, hres, hret, hdisc, hab, hfail, hph]
    rfl
  obtain ⟨g, hg, hm⟩ := exists_mem_of_queueMarks (hrun ▸ queueMarks_wantChunks ..) (mem_queue_modFlight h.heard_mem (Flight.retriedBy m))
  simp only [Flight.marks, Flight.retriedBy, Flight.heard, FlightMarks.mk.injEq] at hm
  obtain ⟨hid, hretried, hscales, -⟩ := hm
  exact ⟨g, hg, hid, hretried ▸ mem_insertNat .., hscales ▸ assocGet_assocPut_same ..⟩

/-- The first PREPASS_ANSWER of a plane. -/
theorem doTapAnswer_first {s : State} {t : Nat} {m : Message} {f : Flight} (h : Takes s t m f) (hauto : f.desc.auto = true)
    (hfr : f.desc.frozen = false) (hans : assocGet m.plane f.answers = none) : ∃ g ∈ (tapAt (doTapAnswer t m s) t).queue,
      g.id = f.id ∧ assocGet m.plane g.answers = some m.maxexp ∧ g.prepassDone = true := by
  have hkept : queueMarks (doTapAnswer t m s) t =
      queueMarks (modFlight (modFlight s t f.id (Flight.heard m)) t f.id (Flight.answeredBy f.desc m)) t := by
    have hfirst : ¬ (!(f.heard m).desc.auto || (f.heard m).desc.frozen || (assocGet m.plane (f.heard m).answers).isSome) = true := by
      simp [Flight.heard, hauto, hfr, hans]
    rw [doTapAnswer, onTailrace_takes h]
    refine (congrArg (queueMarks · t) (if_neg hfirst)).trans ?_
    refine queueMarks_ite rfl (queueMarks_ite (queueMarks_wantChunks ..) (queueMarks_onFlight (fun f' => ?_) rfl))
    refine queueMarks_ite rfl (queueMarks_ite (queueMarks_tapFail ..) ?_)
    exact (queueMarks_wantChunks ..).trans (queueMarks_modFlight (by intro; rfl) ..)
  obtain ⟨g, hg, hm⟩ := exists_mem_of_queueMarks hkept (mem_queue_modFlight h.heard_mem (Flight.answeredBy f.desc m))
  simp only [Flight.marks, Flight.answeredBy, Flight.heard, FlightMarks.mk.injEq] at hm
  obtain ⟨hid, -, -, hanswers, hdone, -⟩ := hm
  exact ⟨g, hg, hid, hanswers ▸ assocGet_assocPut_same .., hdone⟩

/-- An ABORT that neither a re-send nor a re-run answers. -/
theorem doTapAbort_kept {s : State} {t : Nat} {m : Message} {f : Flight} (h : Takes s t m f) (hph : f.phase ≠ .replanWait)
    (hsend : resendable (failInfoOf m) = false) (hplan : replannable s (failInfoOf m) = false) :
    ∃ g ∈ (tapAt (doTapAbort t m s) t).queue, g.id = f.id ∧ (assocGet m.plane g.aborts).isSome = true := by
  generalize hs1 : countOut (modFlight s t f.id (Flight.heard m)) t f.id f.planes = s1
  have hrun : doTapAbort t m s = progress (modFlight s1 t f.id (Flight.abortedBy m)) t f.id := by
    have hph' : ((f.heard m).phase == .replanWait) = false := by simpa [Flight.heard] using hph
    have hplan' : replannable (modFlight s t f.id (Flight.heard m)) (failInfoOf m) = false := hplan
    rw [doTapAbort, onTailrace_takes h, ← hs1]
    simp only [hph', hsend, hplan', Bool.and_false, Bool.false_and]
    rfl
  obtain ⟨f1, hf1, hm1⟩ := exists_mem_of_queueMarks (hs1 ▸ queueMarks_countOut ..) h.heard_mem
  have hid1 : f1.id = f.id := congrArg FlightMarks.id hm1
  obtain ⟨g, hg, hm⟩ := exists_mem_of_queueMarks (hrun ▸ queueMarks_progress ..) (hid1 ▸ mem_queue_modFlight hf1 (Flight.abortedBy m))
  have haborts : g.aborts = (f1.abortedBy m).aborts := congrArg FlightMarks.aborts hm
  exact ⟨g, hg, (congrArg FlightMarks.id hm).trans hid1, haborts ▸ assocGet_abortedBy m f1⟩

/-! ### A tap that fails a bucket (R132, R153) -/

/-- Messages that a tap sends up join what is in flight, in order. -/
theorem forAll_tapUp_onDie (ks : List Nat) (s : State) (t : Nat) (a : Nat → Message) :
    (forAll ks s fun s k => tapUp s t (a k)).onDie =
      s.onDie ++ ks.map fun k => arriveUp (t / 16) (t % 16) { a k with span := ⟨(tapAt s t).contrib, 0⟩ } := by
  induction ks generalizing s with
  | nil => simp [forAll]
  | cons k ks ih =>
    refine (ih (tapUp s t (a k))).trans ?_
    simp [tapUp, tapAt]

theorem forAll_tapUp_taps (ks : List Nat) (s : State) (t : Nat) (a : Nat → Message) :
    (forAll ks s fun s k => tapUp s t (a k)).taps = s.taps :=
  forAll_same State.taps ks s _ fun s k => tapUp_taps s t (a k)

theorem mem_saveKick_onDie {s : State} {c : Instr} (h : c ∈ s.onDie) (t : Nat) : c ∈ (saveKick s t).onDie := by
  unfold saveKick
  split
  · exact List.mem_append_left _ h
  · exact h

/-- The tap's part in the bucket of an entry ends, and nothing of it is left to be sent. -/
def Flight.failedHere (f : Flight) : Flight := { f with failing := true, want := [], preWant := [], readDue := [], readOut := false }

/-- The failure of a plane operation that is not held for a re-run: what is given up, the entry marked, and an ABORT up each plane. -/
theorem tapFail_plane {s : State} {t id code input : Nat} {f : Flight} (h : flightAt s t id = some f) (hplane : f.desc.isPlane = true)
    (hph : f.phase ≠ .replanWait) : tapFail s t id code input =
      let e := tapFailure s t f code 0xFF (tapAt s t).contrib input
      saveKick (forAll f.planes (modFlight (givenUp e.1 t id f.planes) t id Flight.failedHere)
        fun s k => tapUp s t (abortMsg k f.desc.bucket f.desc.step (planeAttempt f k) f.run e.2)) t := by
  have hcond : ¬ (!f.desc.isPlane || f.phase == .replanWait) = true := by simp [hplane, hph]
  rw [tapFail, onFlight_some h]
  exact if_neg hcond

theorem tapFail_tapFailed {s : State} {t code input : Nat} {f : Flight} (h : flightAt s t f.id = some f) (hplane : f.desc.isPlane = true)
    (hph : f.phase ≠ .replanWait) : tapFailed (tapFail s t f.id code input) t f code := by
  rw [tapFail_plane h hplane hph]
  dsimp only
  generalize he : tapFailure s t f code 0xFF (tapAt s t).contrib input = e
  have hcode : e.2.code = code := he ▸ tapFailure_code ..
  have hgiven : queueMarks (givenUp e.1 t f.id f.planes) t = queueMarks s t :=
    (queueMarks_givenUp ..).trans (queueMarks_of_taps (he ▸ tapFailure_taps ..) t)
  generalize givenUp e.1 t f.id f.planes = s1 at hgiven ⊢
  obtain ⟨f1, hf1, hm1⟩ := exists_mem_of_queueMarks hgiven (mem_queue_of_flightAt h)
  have hid1 : f1.id = f.id := congrArg FlightMarks.id hm1
  constructor
  · refine ⟨f1.failedHere, ?_, hid1, rfl⟩
    have hmem : f1.failedHere ∈ (tapAt (modFlight s1 t f.id Flight.failedHere) t).queue := hid1 ▸ mem_queue_modFlight hf1 _
    rw [tapAt, saveKick_taps, forAll_tapUp_taps]
    exact hmem
  · intro k hk
    have hsent := List.mem_append_right (modFlight s1 t f.id Flight.failedHere).onDie (List.mem_map_of_mem (f := fun k =>
      arriveUp (t / 16) (t % 16) { abortMsg k f.desc.bucket f.desc.step (planeAttempt f k) f.run e.2 with
        span := ⟨(tapAt (modFlight s1 t f.id Flight.failedHere) t).contrib, 0⟩ }) hk)
    rw [← forAll_tapUp_onDie] at hsent
    exact ⟨_, mem_saveKick_onDie hsent t, rfl, rfl, rfl, hcode⟩

/-! ### STATS_PARTIAL and lost codewords -/

/-- The tap holds a started descriptor of the message's key, of its run (R356, R365). -/
def holdsKey (s : State) (t : Nat) (m : Message) : Prop :=
  ∃ f ∈ (tapAt s t).queue, inWindow f = true ∧ f.desc.isPlane = true ∧ f.desc.bucket = m.bucket ∧ f.desc.step = m.step ∧ f.run % 8 = m.run

theorem doTapPartial_sends {s : State} {t : Nat} {m : Message} (hkey : holdsKey s t m) (hb : tapBound (tapAt s t).state = true)
    (hc : (tapAt s t).contrib = carrierOf s m.plane) :
    doTapPartial t m s = tapUp s t { m with code := .statsPass, plane := mergePlane s, lastSeg := true } := by
  have hany : ((tapAt s t).queue.any fun f =>
      inWindow f && f.desc.isPlane && f.desc.bucket == m.bucket && f.desc.step == m.step && f.run % 8 == m.run) = true := by
    simpa [holdsKey, and_assoc] using hkey
  simp [doTapPartial, hany, hb, hc]

theorem doTapPartial_drops {s : State} {t : Nat} {m : Message}
    (h : ¬ holdsKey s t m ∨ tapBound (tapAt s t).state = false ∨ (tapAt s t).contrib ≠ carrierOf s m.plane) :
    doTapPartial t m s = tapDrop s t := by
  refine if_neg ?_
  simp only [Bool.and_eq_true, beq_iff_eq, not_and]
  rintro ⟨hany, hb⟩ hc
  have hkey : holdsKey s t m := by simpa [holdsKey, and_assoc] using hany
  simp [hkey, hb, hc] at h

theorem tapLost_good {s : State} {t : Nat} {m : Message} {f : Flight} (hl : liveFlight (tapAt s t) m = some f) (hr : m.run = f.run % 8)
    (hp : m.plane ∈ f.planes) (hg : stillGood f = true) : tapLost t m s = tapFail s t f.id 0x000E 0xFF := by
  simp [tapLost, hl, hr, hp, hg]

theorem tapLost_other {s : State} {t : Nat} {m : Message} {f : Flight} (hl : liveFlight (tapAt s t) m = some f)
    (h : m.run ≠ f.run % 8 ∨ m.plane ∉ f.planes ∨ stillGood f = false) : tapLost t m s = tapDrop s t := by
  simp only [tapLost, hl]
  refine if_neg ?_
  simp only [Bool.and_eq_true, beq_iff_eq, List.contains_iff_mem]
  rintro ⟨⟨hr, hp⟩, hg⟩
  simp [hr, hp, hg] at h

theorem tapLost_none {s : State} {t : Nat} {m : Message} (hl : liveFlight (tapAt s t) m = none) : tapLost t m s = tapDrop s t := by
  simp [tapLost, hl]

/-- A live entry is one of a plane operation. -/
theorem isPlane_of_liveFlight {x : Tap} {m : Message} {f : Flight} (h : liveFlight x m = some f) : f.desc.isPlane = true := by
  have := List.find?_some h
  simp only [Bool.and_eq_true] at this
  exact this.1.1.1

/-- A tailrace message at a tap whose codeword is lost is that of its key alone, whatever the message. -/
theorem exec_lost {s : State} {t : Nat} (ht : t < s.params.taps) {m : Message} {c : Instr}
    (hc : c ∈ [Instr.result ⟨.tap t, .ecc⟩ m, .commit ⟨.tap t, .ecc⟩ m, .retry ⟨.tap t, .ecc⟩ m, .prepassAnswer ⟨.tap t, .ecc⟩ m,
      .statsRow ⟨.tap t, .ecc⟩ m, .statsPartial ⟨.tap t, .ecc⟩ m, .statsMerged ⟨.tap t, .ecc⟩ m]) :
    exec c s = .next (tapLost t m s) := by
  simp only [List.mem_cons, List.not_mem_nil, or_false] at hc
  rcases hc with rfl | rfl | rfl | rfl | rfl | rfl | rfl <;> exact withTap_next s t _ ht

/-- Settles O43: each clause is the meaning of its message, and the work that follows keeps what the message left in the entry. -/
theorem retriesAndAnswersAtTap : Obligations.RetriesAndAnswersAtTap := by
  unfold Obligations.RetriesAndAnswersAtTap
  intro s t m ht
  refine ⟨?_, ?_, ?_, ?_, ?_, fun c hc => ⟨?_, ?_, ?_⟩⟩
  · intro f hl hf hr hp ha hres hret hdisc hab hfail hph
    exact ⟨_, withTap_next s t _ ht,
      doTapRetry_scaled (m := { m with code := .retry }) ⟨hl, hf, hr, hp, .inr ha⟩ hres hret hdisc hab hfail hph⟩
  · intro f hl hf hr hp ha hauto hfr hans
    exact ⟨_, withTap_next s t _ ht, doTapAnswer_first (m := { m with code := .prepassAnswer }) ⟨hl, hf, hr, hp, .inr ha⟩ hauto hfr hans⟩
  · intro f hl hf hr hp hph hsend hplan
    exact ⟨_, withTap_next s t _ ht, doTapAbort_kept (m := { m with code := .abort }) ⟨hl, hf, hr, hp, .inl rfl⟩ hph hsend hplan⟩
  · intro f hf hw hpl hbk hst hrun hb hc
    exact (withTap_next s t _ ht).trans
      (congrArg _ (doTapPartial_sends (m := { m with code := .statsPartial }) ⟨f, hf, hw, hpl, hbk, hst, hrun⟩ hb hc))
  · intro h
    refine (withTap_next s t _ ht).trans (congrArg _ (doTapPartial_drops (m := { m with code := .statsPartial }) ?_))
    rcases h with hb | hc | hkey
    · exact .inr (.inl hb)
    · exact .inr (.inr hc)
    · refine .inl fun ⟨f, hf, hw, hpl, hbk, hst, hrun⟩ => ?_
      rcases hkey f hf with h | h | h | h | h
      · simp [hw] at h
      · simp [hpl] at h
      · exact h hbk
      · exact h hst
      · exact h hrun
  · intro f hl hf hr hp hg
    have hrunning : f.phase = .running := by
      simp only [stillGood, Bool.and_eq_true, beq_iff_eq] at hg
      exact hg.1.1
    refine ⟨_, exec_lost ht hc, ?_⟩
    rw [tapLost_good hl hr hp hg]
    exact tapFail_tapFailed hf (isPlane_of_liveFlight hl) (by rw [hrunning]; decide)
  · intro f hl h
    rw [exec_lost ht hc, tapLost_other hl h]
  · intro hl
    rw [exec_lost ht hc, tapLost_none hl]

end Sys2Proof.Machine
end

section
/-! PROOF. Sluice lines: what the central unit does on each of them (R204, R205, R206, R208). -/

namespace Sys2Proof.Machine

/-! ### One line -/

/-- A fold of ANDs reads 1 on a line where the first value and every other one does. -/
theorem getLsbD_foldl_and (d : Nat → BitVec 16) (g : Nat) (l : List Nat) (v : BitVec 16) :
    (l.foldl (fun acc t => acc &&& d t) v).getLsbD g = (v.getLsbD g && l.all fun t => (d t).getLsbD g) := by
  induction l generalizing v with
  | nil => simp
  | cons t l ih => simp [ih, Bool.and_assoc]

/-- A line of the central AND is 1 exactly where every tap drives it (R204). -/
theorem getLsbD_sluiceAnd (s : State) {g : Nat} (hg : g < 16) :
    (sluiceAnd s).getLsbD g = (List.range s.params.taps).all fun t => (sluiceDrive s t).getLsbD g := by
  have hones : (0xFFFF : BitVec 16).getLsbD g = true := by
    rw [show (0xFFFF : BitVec 16) = BitVec.allOnes 16 from rfl, BitVec.getLsbD_allOnes]
    exact decide_eq_true hg
  rw [sluiceAnd, getLsbD_foldl_and, hones, Bool.true_and]

/-- What a tap without a kept drive drives on a line (R204). -/
theorem getLsbD_sluiceDrive {s : State} {t g : Nat} (hk : (tapAt s t).keptDrive = none) (hg : g < 16) :
    (sluiceDrive s t).getLsbD g = (!(sluiceMember s t).getLsbD g || (tapAt s t).arrivals.getLsbD g) := by
  simp [sluiceDrive, hk, hg]

theorem getLsbD_lineBit (n : Nat) {g : Nat} (hg : g < 16) : (lineBit n).getLsbD g = decide (g = n) := by
  rw [lineBit, BitVec.getLsbD_shiftLeft, show (1 : BitVec 16) = 1#16 from rfl, BitVec.getLsbD_one, decide_eq_true hg,
    Bool.eq_iff_iff]
  simp
  omega

/-- Line `g` is one that the central unit releases now (R205, R208). -/
def releases (s : State) (g : Nat) : Bool :=
  (sluiceAnd s).getLsbD g && !s.blanking.getLsbD g && arrivalPending s g && (g != 15 || s.launch == .idle)

/-- Line `g` is released: blanked, and its arrivals cleared (R205). -/
def released (s : State) (g : Nat) : State := { s with
  blanking := s.blanking ||| lineBit g
  taps := s.taps.map fun x => { x with arrivals := x.arrivals &&& ~~~lineBit g } }

theorem sluiceLine_eq (s : State) (g : Nat) : sluiceLine s g = if releases s g then released s g else s := rfl

theorem releases_eq_true {s : State} {g : Nat} (hand : (sluiceAnd s).getLsbD g = true) (hblank : s.blanking.getLsbD g = false)
    (hpend : arrivalPending s g = true) (hlaunch : g = 15 → s.launch = .idle) : releases s g = true := by
  simpa [releases, hand, hblank, hpend, ← Decidable.imp_iff_not_or] using hlaunch

theorem releases_eq_false {s : State} {g : Nat} (h : (sluiceAnd s).getLsbD g = false ∨ s.blanking.getLsbD g = true ∨
    arrivalPending s g = false ∨ (g = 15 ∧ s.launch ≠ .idle)) : releases s g = false := by
  rcases h with h | h | h | ⟨hg, h⟩ <;> simp [releases, *]

/-! ### A change of taps -/

/-- A tap of a state whose taps are each changed alike; a tap that the state does not have reads as before. -/
theorem tapAt_map {s s' : State} {f : Tap → Tap} (h : s'.taps = s.taps.map f) (hf : f {} = {}) (t : Nat) :
    tapAt s' t = f (tapAt s t) := by
  simp only [tapAt, h, List.getD_eq_getElem?_getD, List.getElem?_map]
  cases s.taps[t]? with
  | none => exact hf.symm
  | some x => rfl

theorem tapAt_released (s : State) (g t : Nat) :
    tapAt (released s g) t = { tapAt s t with arrivals := (tapAt s t).arrivals &&& ~~~lineBit g } :=
  tapAt_map (f := fun x => { x with arrivals := x.arrivals &&& ~~~lineBit g }) rfl (by simp) t

/-! ### Every line -/

/-- `a` is `s` after the central unit has looked at the lines below `n`: those that it releases are blanked and have no arrival,
and nothing else has changed. -/
structure LookedAt (s : State) (n : Nat) (a : State) : Prop where
  blanking : ∀ g < 16, a.blanking.getLsbD g = (s.blanking.getLsbD g || (decide (g < n) && releases s g))
  arrivals : ∀ t, ∀ g < 16, (tapAt a t).arrivals.getLsbD g = ((tapAt s t).arrivals.getLsbD g && !(decide (g < n) && releases s g))
  frame : { a with blanking := s.blanking, taps := s.taps } = s
  tapFrame : ∀ t, { tapAt a t with arrivals := (tapAt s t).arrivals } = tapAt s t

theorem LookedAt.zero (s : State) : LookedAt s 0 s := ⟨by simp, by simp, rfl, fun _ => rfl⟩

/-- A line is released or not whatever the lines below it did: they release alone (R206). -/
theorem LookedAt.releases_eq {s a : State} {n : Nat} (h : LookedAt s n a) (hn : n < 16) : releases a n = releases s n := by
  have hparams : a.params = s.params := (congrArg State.params h.frame :)
  have hlaunch : a.launch = s.launch := (congrArg State.launch h.frame :)
  have hblank : a.blanking.getLsbD n = s.blanking.getLsbD n := by simp [h.blanking n hn]
  have harr : ∀ t, (tapAt a t).arrivals.getLsbD n = (tapAt s t).arrivals.getLsbD n := fun t => by simp [h.arrivals t n hn]
  have hkept : ∀ t, (tapAt a t).keptDrive = (tapAt s t).keptDrive := fun t => (congrArg Tap.keptDrive (h.tapFrame t) :)
  have hmem : ∀ t, sluiceMember a t = sluiceMember s t := fun t =>
    congrArg (BitVec.ofNat 16) (odGet_congr hparams (congrArg State.nodeStrap h.frame :) (congrArg State.i3cStrap h.frame :)
      (congrArg State.od h.frame :) _ _)
  have hdrive : ∀ t, (sluiceDrive a t).getLsbD n = (sluiceDrive s t).getLsbD n := fun t => by
    cases hk : (tapAt s t).keptDrive with
    | none => rw [getLsbD_sluiceDrive hk hn, getLsbD_sluiceDrive ((hkept t).trans hk) hn, hmem, harr]
    | some d => simp only [sluiceDrive, hkept, hk]
  have hand : (sluiceAnd a).getLsbD n = (sluiceAnd s).getLsbD n := by
    simp only [getLsbD_sluiceAnd _ hn, hparams, hdrive]
  have hpend : arrivalPending a n = arrivalPending s n := by
    simp only [arrivalPending, hparams, hmem, BitVec.getLsbD_and, harr]
  rw [releases, hand, hblank, hpend, hlaunch, releases]

/-- The central unit looks at the next line. -/
theorem LookedAt.succ {s a : State} {n : Nat} (h : LookedAt s n a) (hn : n < 16) : LookedAt s (n + 1) (sluiceLine a n) := by
  have hlt : ∀ g, decide (g < n + 1) = (decide (g < n) || decide (g = n)) := fun g => by
    rw [Bool.eq_iff_iff]; simp; omega
  rw [sluiceLine_eq, h.releases_eq hn]
  split
  next hr =>
    refine ⟨fun g hg => ?_, fun t g hg => ?_, h.frame, fun t => ?_⟩
    · show (a.blanking ||| lineBit n).getLsbD g = _
      rw [BitVec.getLsbD_or, h.blanking g hg, getLsbD_lineBit n hg, hlt, Bool.or_assoc]
      by_cases e : g = n <;> simp [e, hr]
    · rw [tapAt_released]
      simp only [BitVec.getLsbD_and, BitVec.getLsbD_not, h.arrivals t g hg, getLsbD_lineBit n hg, hlt, hg]
      by_cases e : g = n <;> simp [e, hr]
    · rw [tapAt_released]
      exact h.tapFrame t
  next hr =>
    refine ⟨fun g hg => ?_, fun t g hg => ?_, h.frame, h.tapFrame⟩
    · rw [h.blanking g hg, hlt]
      by_cases e : g = n <;> simp [e, hr]
    · rw [h.arrivals t g hg, hlt]
      by_cases e : g = n <;> simp [e, hr]

theorem lookedAt_forAll (s : State) {n : Nat} (hn : n ≤ 16) : LookedAt s n (forAll (List.range n) s sluiceLine) := by
  induction n with
  | zero => exact LookedAt.zero s
  | succ n ih =>
    rw [List.range_succ, forAll, List.foldl_append]
    exact (ih (by omega)).succ (by omega)

theorem lookedAt_sluiceCheck (s : State) : LookedAt s 16 (sluiceCheck s) := lookedAt_forAll s (Nat.le_refl 16)

/-- Settles O8: after the last line, each line that is released is blanked and cleared, whatever the others do. -/
theorem sluiceLinesReleaseAlone : Obligations.SluiceLinesReleaseAlone := by
  unfold Obligations.SluiceLinesReleaseAlone
  intro s g hg
  have h := lookedAt_sluiceCheck s
  refine ⟨fun hand hblank hpend hlaunch => ?_, fun hstay => ?_, h.frame, h.tapFrame⟩
  · have hr := releases_eq_true hand hblank hpend hlaunch
    exact ⟨by rw [h.blanking g hg]; simp [hg, hr], fun t => by rw [h.arrivals t g hg]; simp [hg, hr]⟩
  · have hr := releases_eq_false hstay
    exact ⟨by rw [h.blanking g hg]; simp [hr], fun t => by rw [h.arrivals t g hg]; simp [hr]⟩

end Sys2Proof.Machine
end

section
/-! PROOF. What a record of the sump and a poll of the core leave as they are, and reads of sluice lines (R204, R225, R367, R369). -/

namespace Sys2Proof.Machine

open Sys2Proof.Safety

/-! ### Records (R367, R369) -/

/-- Work that changes at most the sump and, where the ring loses a record, the count of lost records. -/
structure SumpOnly (s s' : State) : Prop where
  frame : { s' with od := s.od, sump := s.sump } = s
  objects : onlyObjects s s' [(0x7000, 0x0C)]

theorem SumpOnly.trans {s t u : State} (h : SumpOnly s t) (h' : SumpOnly t u) : SumpOnly s u where
  frame := (congrArg (fun x : State => { x with od := s.od, sump := s.sump }) h'.frame).trans h.frame
  objects i sub hsub hmem := (h'.objects i sub hsub hmem).trans (h.objects i sub hsub hmem)

/-- A change of the sump alone. -/
theorem sumpOnly_sump (s : State) (x : Sump) : SumpOnly s { s with sump := x } := ⟨rfl, fun _ _ _ _ => rfl⟩

theorem sumpOnly_sumpPut (s : State) (r : SumpRec) : SumpOnly s (sumpPut s r) := by
  simp only [sumpPut]
  split
  · refine ⟨rfl, fun i sub hsub hmem => ?_⟩
    exact odGet_odSet_ne _ _ _ _ _ _ (by decide) hsub (by simpa using hmem)
  · exact sumpOnly_sump s _

theorem sumpOnly_sumpNow (s : State) (r : SumpRec) (c : Option SumpRec) : SumpOnly s (sumpNow s r c) := by
  have fresh : SumpOnly s (sumpNow.sumpFresh s r c) := by
    cases c with
    | none => exact ((sumpOnly_sumpPut s _).trans (sumpOnly_sump _ _)).trans (sumpOnly_sump _ _)
    | some c =>
      exact (((sumpOnly_sumpPut s _).trans (sumpOnly_sump _ _)).trans (sumpOnly_sumpPut _ _)).trans (sumpOnly_sump _ _)
  unfold sumpNow
  split
  · split
    · exact sumpOnly_sump s _
    · exact fresh
  · exact fresh

theorem sumpOnly_sumpWrite2 (s : State) (r : SumpRec) (c : Option SumpRec) : SumpOnly s (sumpWrite2 s r c) := by
  unfold sumpWrite2
  split
  · exact sumpOnly_sump s _
  · exact sumpOnly_sumpNow s r c

/-! ### The watchdog and polls (R225) -/

/-- The watchdog of a tap that has fired. -/
def Tap.dogFired (x : Tap) : Tap := { x with dog := { x.dog with fired := true } }

/-- A record of E_WATCHDOG, the count of the fire, and the mark at the tap. -/
theorem dogFire_eq (s : State) (t : Nat) : ∃ u, SumpOnly s u ∧ dogFire s t = modTap (tapCnt u t 0x27) t Tap.dogFired :=
  ⟨_, sumpOnly_sumpWrite2 s _ none, rfl⟩

/-- A fire changes at most objects, taps and the sump. -/
theorem dogFire_frame (s : State) (t : Nat) : { dogFire s t with od := s.od, taps := s.taps, sump := s.sump } = s := by
  obtain ⟨u, hu, e⟩ := dogFire_eq s t
  rw [e]
  exact congrArg (fun x : State => { x with taps := s.taps }) hu.frame

/-- A fire marks its tap and leaves the others alone. -/
theorem dogFire_taps (s : State) (t : Nat) : (dogFire s t).taps = (modTap s t Tap.dogFired).taps := by
  obtain ⟨u, hu, e⟩ := dogFire_eq s t
  have htaps : u.taps = s.taps := (congrArg State.taps hu.frame :)
  rw [e, modTap_taps, modTap_taps, ← htaps]
  rfl

theorem tapAt_dogFire (s : State) (t u : Nat) : tapAt (dogFire s t) u = tapAt (modTap s t Tap.dogFired) u := by
  simp only [tapAt, dogFire_taps]

/-- A fire is counted in WATCHDOG_FIRES of its tap. -/
theorem odGet_dogFire (s : State) (t : Nat) : odGet (dogFire s t) (0x7080 + t) 0x27 = min (odGet s (0x7080 + t) 0x27 + 1) 0xFFFFFFFF := by
  obtain ⟨u, hu, e⟩ := dogFire_eq s t
  have hbefore : odGet u (0x7080 + t) 0x27 = odGet s (0x7080 + t) 0x27 :=
    hu.objects _ _ (by decide) (by simp)
  rw [e, odGet_modTap, tapCnt, cnt, cntAdd, odGet_odSet_same, hbefore]

/-- A poll changes at most objects, taps and the sump. -/
theorem pollSeen_frame (s : State) (t : Nat) (p : PollMark) :
    { pollSeen s t p with od := s.od, taps := s.taps, sump := s.sump } = s := by
  simp only [pollSeen]
  split
  · rfl
  · split
    · exact congrArg (fun x : State => { x with taps := s.taps }) (dogFire_frame ..)
    · rfl

theorem pollSeen_outs (s : State) (t : Nat) (p : PollMark) : (pollSeen s t p).outs = s.outs :=
  (congrArg State.outs (pollSeen_frame s t p) :)

/-- The timer before T_WATCHDOG, or after it has fired. -/
theorem doPollWatchdog_idle {s : State} {t e : Nat} (h : e < (tapAt s t).dog.limit ∨ (tapAt s t).dog.fired = true) :
    doPollWatchdog t e s = s := by
  rcases h with h | h <;> simp [doPollWatchdog, h]

/-- The timer at T_WATCHDOG with a recent poll. -/
theorem doPollWatchdog_fires {s : State} {t e : Nat} (hlim : (tapAt s t).dog.limit ≤ e) (hfired : (tapAt s t).dog.fired = false)
    (hlast : (tapAt s t).dog.last.isSome = true) (hage : s.uptime < (tapAt s t).dog.lastAt + 1000000) :
    doPollWatchdog t e s = dogFire s t := by
  simp [doPollWatchdog, Nat.not_lt.mpr hlim, hfired, hlast, hage]

/-- The timer at T_WATCHDOG without a recent poll. -/
theorem doPollWatchdog_overdue {s : State} {t e : Nat} (hlim : (tapAt s t).dog.limit ≤ e) (hfired : (tapAt s t).dog.fired = false)
    (hage : (tapAt s t).dog.last = none ∨ (tapAt s t).dog.lastAt + 1000000 ≤ s.uptime) :
    doPollWatchdog t e s = modTap s t fun x => { x with dog := { x.dog with overdue := true } } := by
  rcases hage with h | h
  · simp [doPollWatchdog, Nat.not_lt.mpr hlim, hfired, h]
  · simp [doPollWatchdog, Nat.not_lt.mpr hlim, hfired, Nat.not_lt.mpr h]

/-- Settles O32: the timer's event does nothing, fires, or leaves the timer overdue. -/
theorem pollWatchdogFires : Obligations.PollWatchdogFires := by
  unfold Obligations.PollWatchdogFires
  intro s t e hshape ht
  have hexec : exec (.pollWatchdog t e) s = .next (doPollWatchdog t e s) := withTap_next s t _ ht
  refine ⟨fun h => ?_, fun hlim hfired hlast hage => ?_, fun hlim hfired hage => ?_⟩
  · rw [hexec, doPollWatchdog_idle h]
  · refine ⟨dogFire s t, ?_, ?_, odGet_dogFire s t, ?_, ?_, fun u hu => ?_, dogFire_frame s t⟩
    · rw [hexec, doPollWatchdog_fires hlim hfired hlast hage]
    · rw [tapAt_dogFire, tapAt_modTap_same _ _ _ (hshape.taps ▸ ht)]
      rfl
    · rw [tapAt_dogFire, tapAt_modTap_same _ _ _ (hshape.taps ▸ ht)]
      rfl
    · exact (congrArg State.flags (dogFire_frame s t) :)
    · rw [tapAt_dogFire, tapAt_modTap_other _ _ _ _ hu.symm]
  · rw [hexec, doPollWatchdog_overdue hlim hfired hage]

/-! ### Accesses at once (R204, R408, R414) -/

theorem wakeTrigger_running {s : State} (h : s.power.state = .running) : wakeTrigger s = s := by
  simp [wakeTrigger, h]

/-- An access in RUNNING with the common clock on takes effect at once. -/
theorem onCommon_on {s : State} (hrun : s.power.state = .running) (hcommon : s.power.common = true) (c : Instr) (f : State → State) :
    onCommon s c f = f s := by
  simp [onCommon, wakeTrigger_running hrun, fabricAsleep, hrun, hcommon]

/-- A read of a sluice word in RUNNING with the common clock on drives its value. -/
theorem doSluicePoll_outs {s : State} {t : Nat} (hoff : coreOff s t = false) (hrun : s.power.state = .running)
    (hcommon : s.power.common = true) (drive : Bool) : (doSluicePoll t drive s).outs =
      s.outs ++ [.windowData t (if drive then sluiceDriveRead s t else sluiceLines s).toNat] := by
  simp [doSluicePoll, coreRead, hoff, wakeTrigger_running hrun, onCommon_on hrun hcommon, pollSeen_outs]

theorem launchLine_idle {s : State} (h : s.launch = .idle) (v : BitVec 16) : launchLine s v = v := by
  simp [launchLine, h]

/-- Settles O29: a read drives the word, and the bits of the word are the drives and their AND. -/
theorem sluiceDriveAndLines : Obligations.SluiceDriveAndLines := by
  unfold Obligations.SluiceDriveAndLines
  intro s t hshape ht hoff hrun hcommon hlaunch hkept
  have houts := doSluicePoll_outs hoff hrun hcommon
  refine ⟨⟨_, withTap_next s t _ ht, sluiceDriveRead s t, houts true, fun g hg => ?_⟩,
    ⟨_, withTap_next s t _ ht, sluiceLines s, houts false, fun g hg => ?_⟩⟩
  · rw [sluiceDriveRead, launchLine_idle hlaunch, getLsbD_sluiceDrive (hkept t ht) hg]
  · rw [sluiceLines, launchLine_idle hlaunch, getLsbD_sluiceAnd s hg, List.all_eq_true]
    simp only [List.mem_range]
    exact forall₂_congr fun u hu => by rw [getLsbD_sluiceDrive (hkept u hu) hg]

end Sys2Proof.Machine
end

section
/-! PROOF. Accesses of the tap window that wait for the common clock or a wake (R197, R408, R412, R414, R419). -/

namespace Sys2Proof.Machine

open Sys2Proof.Safety

/-! ### Wakes -/

/-- A trigger after a trigger changes nothing. -/
theorem wakeTrigger_wakeTrigger (s : State) : wakeTrigger (wakeTrigger s) = wakeTrigger s := by
  unfold wakeTrigger
  cases h : s.power.state <;> simp [h]

/-- A trigger changes the power state alone. -/
theorem wakeTrigger_power (s : State) : wakeTrigger s = { s with power := (wakeTrigger s).power } := by
  unfold wakeTrigger
  split <;> rfl

theorem tapAt_wakeTrigger (s : State) (t : Nat) : tapAt (wakeTrigger s) t = tapAt s t := by
  rw [wakeTrigger_power]
  rfl

theorem wakeTrigger_entering {s : State} (h : s.power.state = .entering) :
    wakeTrigger s = { s with power := { s.power with state := .running } } := by
  simp [wakeTrigger, h]

theorem wakeTrigger_asleep {s : State} (h : s.power.state = .dormant ∨ s.power.state = .waking) :
    wakeTrigger s = { s with power := { s.power with state := .waking } } := by
  rcases h with h | h
  · simp [wakeTrigger, h]
  · simp only [wakeTrigger, h]
    rw [← h]

/-- An access has the same effect after a trigger. -/
theorem onCommon_wakeTrigger (s : State) (c : Instr) (f : State → State) : onCommon (wakeTrigger s) c f = onCommon s c f := by
  simp only [onCommon, wakeTrigger_wakeTrigger]

/-! ### What an access does in each power state -/

theorem onCommon_stopped {s : State} (hrun : s.power.state = .running) (hcommon : s.power.common = false) (c : Instr)
    (f : State → State) : onCommon s c f = { startCommon s with held := s.held ++ [(.clock none, c)] } := by
  simp [onCommon, wakeTrigger_running hrun, fabricAsleep, hrun, hcommon]

theorem onCommon_asleep {s : State} (h : s.power.state = .dormant ∨ s.power.state = .waking) (c : Instr) (f : State → State) :
    onCommon s c f = { s with power := { s.power with state := .waking }, held := s.held ++ [(.wake, c)] } := by
  simp [onCommon, wakeTrigger_asleep h, fabricAsleep]

theorem onCommon_entering {s : State} (h : s.power.state = .entering) (c : Instr) (f : State → State) :
    onCommon s c f = onCommon { s with power := { s.power with state := .running } } c f := by
  rw [← wakeTrigger_entering h, onCommon_wakeTrigger]

/-! ### The core's side of an access -/

theorem coreWrite_off {s : State} {t : Nat} (h : coreOff s t = true) (f : State → State) : coreWrite s t f = s := by
  simp [coreWrite, h]

theorem coreWrite_on {s : State} {t : Nat} (h : coreOff s t = false) (f : State → State) : coreWrite s t f = f (wakeTrigger s) := by
  simp [coreWrite, h]

theorem coreRead_off {s : State} {t : Nat} (h : coreOff s t = true) (f : State → State) :
    coreRead s t f = emit s (.windowData t 0) := by
  simp [coreRead, h]

theorem coreRead_on {s : State} {t : Nat} (h : coreOff s t = false) (f : State → State) : coreRead s t f = f (wakeTrigger s) := by
  simp [coreRead, h]

/-- A write of the core of a tap that is not bound is a trigger and nothing else. -/
theorem doFlagWrite_unbound {s : State} {t : Nat} (hoff : coreOff s t = false) (hb : coreBound (tapAt s t) = false) (c : Instr) (v : U64)
    (set : Bool) : doFlagWrite c t v set s = wakeTrigger s := by
  simp [doFlagWrite, coreWrite_on hoff, tapAt_wakeTrigger, hb]

theorem doSluiceArrive_unbound {s : State} {t : Nat} (hoff : coreOff s t = false) (hb : coreBound (tapAt s t) = false) (v : U64) :
    doSluiceArrive t v s = wakeTrigger s := by
  simp [doSluiceArrive, coreWrite_on hoff, tapAt_wakeTrigger, hb]

/-- The core of tap `t` may access flags and sluice lines (R162, R419). -/
structure CoreIn (t : Nat) (s : State) : Prop where
  tap : t < s.params.taps
  on : coreOff s t = false
  bound : coreBound (tapAt s t) = true

/-- The command is an access that waits for the common clock: in every state in which the core may access, it does one and the same
work, now or after a wait. -/
def isAccess (t : Nat) (c : Instr) : Prop := ∃ f, ∀ s, CoreIn t s → exec c s = .next (onCommon s c f)

theorem isAccess_of {t : Nat} {c : Instr} {d f : State → State} (hexec : ∀ s, exec c s = withTap s t d)
    (hd : ∀ s, CoreIn t s → d s = onCommon (wakeTrigger s) c f) : isAccess t c := by
  refine ⟨f, fun s h => ?_⟩
  rw [hexec, withTap_next s t d h.tap, hd s h, onCommon_wakeTrigger]

theorem isAccess_flagWrite {t : Nat} {c : Instr} {v : U64} {set : Bool} (hexec : ∀ s, exec c s = withTap s t (doFlagWrite c t v set)) :
    isAccess t c := by
  apply isAccess_of hexec
  intro s h
  rw [doFlagWrite, coreWrite_on h.on, tapAt_wakeTrigger, h.bound]
  exact if_neg (by decide)

theorem isAccess_sluiceArrive (t : Nat) (v : U64) : isAccess t (.sluiceArrive t v) := by
  apply isAccess_of fun _ => rfl
  intro s h
  rw [doSluiceArrive, coreWrite_on h.on, tapAt_wakeTrigger, h.bound]
  exact if_neg (by decide)

theorem isAccess_claim (t : Nat) {f : Nat} (hf : f < 4096) : isAccess t (.claim t f 1) := by
  apply isAccess_of fun _ => rfl
  intro s h
  rw [doClaim, coreRead_on h.on, if_neg (Nat.not_le.mpr hf)]
  exact if_neg (by decide)

theorem isAccess_poll (t : Nat) {o n : Nat} (hn : n = 8 ∨ n = 16 ∨ n = 32 ∨ n = 64) (ho : o % n = 0) (hend : o + n ≤ 512) :
    isAccess t (.poll t o n) := by
  have haligned : ((n == 8 || n == 16 || n == 32 || n == 64) && o % n == 0 && decide (o + n ≤ 512)) = true := by
    simpa [ho, hend, or_assoc] using hn
  apply isAccess_of fun _ => rfl
  intro s h
  rw [doPoll, coreRead_on h.on, if_pos haligned]

theorem isAccess_sluicePoll (t : Nat) (d : Bool) : isAccess t (.sluicePoll t d) := by
  apply isAccess_of fun _ => rfl
  intro s h
  rw [doSluicePoll, coreRead_on h.on]

/-- Settles O28: an access is the same work in each power state, held or done; the core of a tap off or unbound does none. -/
theorem windowWaits : Obligations.WindowWaits := by
  unfold Obligations.WindowWaits
  intro s t ht
  refine ⟨fun hoff => ⟨fun v => ⟨?_, ?_, ?_⟩, fun f n => ?_, fun o n => ?_, fun d => ?_⟩, ?_, fun hon hb v => ⟨?_, ?_, ?_⟩⟩
  · exact (withTap_next s t _ ht).trans (congrArg _ (coreWrite_off hoff _))
  · exact (withTap_next s t _ ht).trans (congrArg _ (coreWrite_off hoff _))
  · exact (withTap_next s t _ ht).trans (congrArg _ (coreWrite_off hoff _))
  · exact (withTap_next s t _ ht).trans (congrArg _ (coreRead_off hoff _))
  · exact (withTap_next s t _ ht).trans (congrArg _ (coreRead_off hoff _))
  · exact (withTap_next s t _ ht).trans (congrArg _ (coreRead_off hoff _))
  · intro hon hb v f o n d hf hn ho hend c hc
    have access : isAccess t c := by
      simp only [List.mem_cons, List.not_mem_nil, or_false] at hc
      rcases hc with rfl | rfl | rfl | rfl | rfl | rfl
      · exact isAccess_flagWrite fun _ => rfl
      · exact isAccess_flagWrite fun _ => rfl
      · exact isAccess_sluiceArrive t v
      · exact isAccess_claim t hf
      · exact isAccess_poll t hn ho hend
      · exact isAccess_sluicePoll t d
    obtain ⟨work, hexec⟩ := access
    have hin : CoreIn t s := ⟨ht, hon, hb⟩
    refine ⟨fun hrun hcommon => ?_, fun hsleep => ?_, fun henter => ?_⟩
    · rw [hexec s hin, onCommon_stopped hrun hcommon]
    · rw [hexec s hin, onCommon_asleep hsleep]
    · have hin' : CoreIn t { s with power := { s.power with state := .running } } := ⟨ht, hon, hb⟩
      rw [hexec s hin, hexec _ hin', onCommon_entering henter]
  · exact (withTap_next s t _ ht).trans (congrArg _ (doFlagWrite_unbound hon hb _ v true))
  · exact (withTap_next s t _ ht).trans (congrArg _ (doFlagWrite_unbound hon hb _ v false))
  · exact (withTap_next s t _ ht).trans (congrArg _ (doSluiceArrive_unbound hon hb v))

end Sys2Proof.Machine
end

section
/-! PROOF. Timeouts of a tap: the backstop and the end of a wait for a re-run (R221, R366). -/

namespace Sys2Proof.Machine

open Sys2Proof.Safety

/-! ### What an entry keeps on its way to the record -/

section
variable {β : Type} {v : Flight → β}

/-- What `v` shows of an entry is not how far it is on the way to its record: its phase, the record, and whether its tail flag is
applied. -/
def onWayKept (v : Flight → β) : Prop :=
  ∀ (f : Flight) (p : Phase) (w : Words) (done : Bool), v { f with phase := p, record := w, tailDone := done } = v f

/-- What `v` shows of the entries of a tap, in order. -/
def queueView (v : Flight → β) (s : State) (t : Nat) : List β := (tapAt s t).queue.map v

theorem queueView_of_taps {s s' : State} (h : s'.taps = s.taps) (u : Nat) : queueView v s' u = queueView v s u := by
  simp only [queueView, tapAt, h]

/-- Work that keeps the view of a tap's entries keeps that of each. -/
theorem exists_mem_of_queueView {s s' : State} {t : Nat} {f : Flight} (h : queueView v s' t = queueView v s t)
    (hf : f ∈ (tapAt s t).queue) : ∃ g ∈ (tapAt s' t).queue, v g = v f := by
  have hm : v f ∈ queueView v s' t := h ▸ List.mem_map_of_mem hf
  exact List.mem_map.mp hm

theorem queueView_modTap {g : Tap → Tap} (h : ∀ x, (g x).queue.map v = x.queue.map v) (s : State) (t u : Nat) :
    queueView v (modTap s t g) u = queueView v s u := by
  unfold queueView
  rcases tapAt_modTap_cases s t u g with e | e <;> rw [e]
  exact h _

theorem queueView_modFlight {g : Flight → Flight} (h : ∀ f, v (g f) = v f) (s : State) (t id u : Nat) :
    queueView v (modFlight s t id g) u = queueView v s u := by
  refine queueView_modTap (fun x => ?_) s t u
  rw [List.map_map]
  refine List.map_congr_left fun f _ => ?_
  show v (if f.id == id then g f else f) = v f
  split
  · exact h f
  · rfl

theorem queueView_onFlight {s : State} {t id u : Nat} {g : State → Flight → State} (h : ∀ f, queueView v (g s f) u = queueView v s u) :
    queueView v (onFlight s t id g) u = queueView v s u := by
  unfold onFlight
  split
  · exact h _
  · rfl

theorem queueView_addMem (s : State) (t : Nat) (rs : List MemReq) (u : Nat) : queueView v (addMem s t rs) u = queueView v s u :=
  (queueView_modTap (s := modTap s t _) (by intro; rfl) t u).trans (queueView_modTap (by intro; rfl) s t u)

theorem queueView_flagOp (s : State) (f : Nat) (b : Bool) (u : Nat) : queueView v (flagOp s f b) u = queueView v s u := by
  unfold queueView tapAt flagOp
  by_cases h : u < s.taps.length <;> simp [List.getD_eq_getElem?_getD, h]

theorem queueView_applyTail (s : State) (f : Flight) (u : Nat) : queueView v (applyTail s f) u = queueView v s u := by
  unfold applyTail
  split
  · exact queueView_flagOp ..
  · rfl

variable (hv : onWayKept v)
include hv

theorem queueView_tryRecord (s : State) (t u : Nat) : queueView v (tryRecord s t) u = queueView v s u := by
  simp only [tryRecord]
  split
  · rfl
  · split
    · rfl
    · refine queueView_onFlight fun f => ?_
      rw [queueView_addMem, queueView_modFlight fun f => hv f f.phase _ true]
      split
      · rfl
      · exact queueView_applyTail ..

theorem queueView_fenceFlight (s : State) (t id u : Nat) : queueView v (fenceFlight s t id) u = queueView v s u := by
  refine queueView_onFlight fun f => ?_
  split
  · exact queueView_modFlight (fun f => hv f _ f.record f.tailDone) ..
  · refine queueView_onFlight fun f => ?_
    rw [queueView_tryRecord hv, queueView_modTap (by intro; rfl), queueView_modFlight fun g => hv g _ _ g.tailDone]

/-- A settled entry keeps it, whether it goes to handover, waits for a fence or goes to its record. -/
theorem queueView_settleCheck (s : State) (t id u : Nat) : queueView v (settleCheck s t id) u = queueView v s u := by
  refine queueView_onFlight fun f => ?_
  split
  · rfl
  · split
    · have offering := queueView_modFlight (v := v) (fun f => hv f .offering f.record f.tailDone) s t id u
      dsimp only
      split
      · exact (queueView_of_taps (offerNext_taps _) u).trans offering
      · exact offering
    · exact queueView_fenceFlight hv ..

end

/-! ### An entry that ends with STATUS ERROR (R132) -/

/-- How an entry ended: its name, STATUS and code. -/
def Flight.ending (f : Flight) : Nat × Nat × Nat := (f.id, f.status, f.code)

theorem onWayKept_ending : onWayKept Flight.ending := fun _ _ _ _ => rfl

/-- What is given up of an entry before it ends (R132). -/
def endBegun (s : State) (t id : Nat) : State :=
  onFlight (dropReads (releaseTiles s t id) t id) t id fun s f => countOut s t id f.planes

/-- An entry ended by failure `e` in state `s`. -/
def Flight.ended (s : State) (e : FailInfo) (f : Flight) : Flight := { f with
  paused := f.paused || (f.desc.isPlane && markedHere s f.desc)
  phase := .settling, status := 2, code := e.code, failed := some e, want := [], preWant := [], readDue := [], readOut := false }

theorem endError_eq (s : State) (t id : Nat) (e : FailInfo) :
    endError s t id e = settleCheck (modFlight (endBegun s t id) t id (Flight.ended (endBegun s t id) e)) t id := rfl

theorem queueMarks_endBegun (s : State) (t id u : Nat) : queueMarks (endBegun s t id) u = queueMarks s u := by
  refine (queueMarks_onFlight (fun f => queueMarks_countOut ..) rfl).trans ?_
  rw [queueMarks_dropReads, queueMarks_releaseTiles]

/-- An entry of the queue that ends with a failure stands there with STATUS ERROR and the code of the failure. -/
theorem endError_ended {s : State} {t : Nat} {f : Flight} (h : f ∈ (tapAt s t).queue) (e : FailInfo) :
    ∃ g ∈ (tapAt (endError s t f.id e) t).queue, g.id = f.id ∧ g.status = 2 ∧ g.code = e.code := by
  obtain ⟨f1, hf1, hm1⟩ := exists_mem_of_queueMarks (queueMarks_endBegun s t f.id t) h
  have hid : f1.id = f.id := congrArg FlightMarks.id hm1
  have hmem := mem_queue_modFlight hf1 (Flight.ended (endBegun s t f.id) e)
  rw [hid] at hmem
  obtain ⟨g, hg, hending⟩ := exists_mem_of_queueView (queueView_settleCheck onWayKept_ending _ t f.id t) hmem
  rw [← endError_eq] at hg
  simp only [Flight.ending, Flight.ended, Prod.mk.injEq] at hending
  obtain ⟨hgid, hstatus, hcode⟩ := hending
  exact ⟨g, hg, hgid.trans hid, hstatus, hcode⟩

/-! ### The timers -/

/-- The entry whose backstop runs for a key: the first plane operation of the key that has started and not ended. -/
def backstopEntry (s : State) (t : Nat) (bucket : U32) (step : U64) : Option Flight :=
  (tapAt s t).queue.find? fun f => f.desc.isPlane && f.desc.bucket == bucket && f.desc.step == step
    && (f.phase == .running || f.phase == .waitArrive)

theorem doBackstop_none {s : State} {t : Nat} {bucket : U32} {step : U64} (h : backstopEntry s t bucket step = none) (e : Nat) :
    doBackstop t bucket step e s = s := by
  simp only [backstopEntry] at h
  simp only [doBackstop, h]

/-- The backstop before twice the limit, or with every plane delivered or aborted. -/
theorem doBackstop_idle {s : State} {t e : Nat} {bucket : U32} {step : U64} {f : Flight} (hf : backstopEntry s t bucket step = some f)
    (h : e < 2 * limitOf f.limits (crossesAdit s) ∨ ∀ k ∈ f.planes, f.delivered.contains k = true ∨ (assocGet k f.aborts).isSome = true) :
    doBackstop t bucket step e s = s := by
  simp only [backstopEntry] at hf
  simp only [doBackstop, hf]
  split
  · rfl
  next he =>
    refine if_pos (List.all_eq_true.mpr fun k hk => ?_)
    rw [Bool.or_eq_true]
    exact h.resolve_left he k hk

/-- The backstop at twice the limit with a plane neither delivered nor aborted. -/
theorem doBackstop_fires {s : State} {t e : Nat} {bucket : U32} {step : U64} {f : Flight} (hf : backstopEntry s t bucket step = some f)
    (he : 2 * limitOf f.limits (crossesAdit s) ≤ e) (hk : ∃ k ∈ f.planes, f.delivered.contains k = false ∧ assocGet k f.aborts = none) :
    doBackstop t bucket step e s =
      endError (tapFailure s t f 0x0001 0xFF 0xFFFFFF 0xFF).1 t f.id (tapFailure s t f 0x0001 0xFF 0xFFFFFF 0xFF).2 := by
  obtain ⟨k, hk, hdel, hab⟩ := hk
  have hopen : ¬ (f.planes.all fun k => f.delivered.contains k || (assocGet k f.aborts).isSome) = true := fun hall => by
    have hdone := List.all_eq_true.mp hall k hk
    rw [hdel, hab] at hdone
    exact Bool.noConfusion hdone
  simp only [backstopEntry] at hf
  simp only [doBackstop, hf, if_neg (Nat.not_lt.mpr he), if_neg hopen]

/-- The entry of a key that waits for a re-run (R364). -/
def replanEntry (s : State) (t : Nat) (bucket : U32) (step : U64) : Option Flight :=
  (tapAt s t).queue.find? fun f => f.desc.bucket == bucket && f.desc.step == step && f.phase == .replanWait

theorem doReplanTimeout_early {s : State} {t e : Nat} (h : e < odGet s 0x7010 0x02) (bucket : U32) (step : U64) :
    doReplanTimeout t bucket step e s = s := if_pos h

theorem doReplanTimeout_ends {s : State} {t e : Nat} {bucket : U32} {step : U64} {f : Flight} (he : odGet s 0x7010 0x02 ≤ e)
    (hf : replanEntry s t bucket step = some f) : doReplanTimeout t bucket step e s = endError s t f.id (f.failed.getD noFail) := by
  simp only [replanEntry] at hf
  simp only [doReplanTimeout, if_neg (Nat.not_lt.mpr he), hf]

/-- Settles O41: a timer that has reached its limit ends its entry, with E_BUCKET_TIMEOUT or with the failure of the abort. -/
theorem tapTimeouts : Obligations.TapTimeouts := by
  unfold Obligations.TapTimeouts
  intro s t e bucket step ht
  have hback : exec (.tapBackstopTimeout t bucket step e) s = .next (doBackstop t bucket step e s) := withTap_next s t _ ht
  have hreplan : exec (.replanTimeout t bucket step e) s = .next (doReplanTimeout t bucket step e s) := withTap_next s t _ ht
  refine ⟨fun f hf => ⟨fun h => ?_, fun he hat hk => ?_⟩, fun hnone => ?_, fun he => ?_, fun f e' he hf hat hfailed => ?_⟩
  · rw [hback, doBackstop_idle hf h]
  · have hmem : f ∈ (tapAt (tapFailure s t f 0x0001 0xFF 0xFFFFFF 0xFF).1 t).queue := by
      rw [tapAt, tapFailure_taps]
      exact mem_queue_of_flightAt hat
    exact ⟨_, hback.trans (congrArg _ (doBackstop_fires hf he hk)), endError_ended hmem _⟩
  · rw [hback, doBackstop_none hnone]
  · rw [hreplan, doReplanTimeout_early he]
  · have hended := endError_ended (mem_queue_of_flightAt hat) (f.failed.getD noFail)
    rw [hfailed] at hended
    refine ⟨_, hreplan.trans (congrArg _ (doReplanTimeout_ends he hf)), ?_⟩
    rw [hfailed]
    exact hended

end Sys2Proof.Machine
end

section
/-! PROOF. Flags and pauses that management asks for (R195, R196, R222, R226, R438). -/

namespace Sys2Proof.Machine

open Sys2Proof.Config (Params)
open Sys2Proof.Safety

/-! ### FLAG_SET and FLAG_CLEAR (R195, R226) -/

theorem getLsbD_flagPut_same (fl : BitVec 4096) {f : Nat} (b : Bool) (hf : f < 4096) : (flagPut fl f b).getLsbD f = b := by
  unfold flagPut
  cases b <;> simp [hf]

theorem getLsbD_flagPut_other (fl : BitVec 4096) {f g : Nat} (b : Bool) (hg : g ≠ f) :
    (flagPut fl f b).getLsbD g = fl.getLsbD g := by
  have hbit : ((1 : BitVec 4096) <<< f).getLsbD g = false := by
    rw [BitVec.getLsbD_shiftLeft, show (1 : BitVec 4096) = 1#4096 from rfl, BitVec.getLsbD_one]
    simp
    omega
  cases b with
  | true => simp only [flagPut, if_true, BitVec.getLsbD_or, hbit, Bool.or_false]
  | false =>
    have hin : (fl.getLsbD g && decide (g < 4096)) = fl.getLsbD g := by
      by_cases h : g < 4096
      · rw [decide_eq_true h, Bool.and_true]
      · rw [BitVec.getLsbD_of_ge fl g (Nat.not_lt.mp h), Bool.false_and]
    simp only [flagPut, Bool.false_eq_true, if_false, BitVec.getLsbD_and, BitVec.getLsbD_not, hbit, Bool.not_false, Bool.and_true, hin]

/-! ### Objects of no unit -/

/-- The index is of no quern, plane, tap, region or port. -/
structure OfNoUnit (p : Params) (i : Nat) : Prop where
  querns : inIdx i 0x2100 p.querns = false
  planes : inIdx i 0x2210 p.planes = false
  config : inIdx i 0x2240 p.querns = false
  taps : inIdx i 0x3000 p.taps = false
  regions : inIdx i 0x3100 256 = false
  lattice : inIdx i 0x4000 p.latticePorts = false
  adits : inIdx i 0x4100 p.aditPorts = false

theorem ofNoUnit {p : Params} (h : Bounds p) {i : Nat} (hi : 0x5000 ≤ i) : OfNoUnit p i := by
  obtain ⟨ht, hp, hpos, hq, hl, ha⟩ := h
  constructor <;> exact inIdx_false (.inr (by omega))

/-- The row of FLAG_SET and FLAG_CLEAR, and that of PAUSE_CMD (R381). -/
def flagRow : ObjRow := ⟨1, 2, .u16, .wo, [0], 0, 0xFFFF⟩
def pauseRow : ObjRow := ⟨1, 1, .enum8, .wo, [0], 1, 2⟩

theorem accessRow_flag {s : State} (h : Bounds s.params) {sub : Nat} (hsub : sub = 1 ∨ sub = 2) :
    accessRow s 0x6001 sub = some flagRow := by
  obtain ⟨hq, hp, hc, ht, hr, hl, ha⟩ := ofNoUnit h (show 0x5000 ≤ 0x6001 by decide)
  rcases hsub with rfl | rfl <;> simp [accessRow, objRow, rowsOf, hq, hp, hc, ht, hr, hl, ha, rowOf, flagRow]

theorem accessRow_pause {s : State} (h : Bounds s.params) : accessRow s 0x6030 1 = some pauseRow := by
  obtain ⟨hq, hp, hc, ht, hr, hl, ha⟩ := ofNoUnit h (show 0x5000 ≤ 0x6030 by decide)
  simp [accessRow, objRow, rowsOf, hq, hp, hc, ht, hr, hl, ha, rowOf, pauseRow]

theorem writeCheck_flag {s : State} {p : Path} (hs : Serves s p) (v : U16) {sub : Nat} (hsub : sub = 1 ∨ sub = 2) :
    writeCheck s p 0x6001 sub (natToBytes v.toNat 2) = 0 := by
  have hbounds := bounds_of_supported hs.supported
  obtain ⟨hq, hp, hc, ht, hr, hl, ha⟩ := ofNoUnit hbounds (show 0x5000 ≤ 0x6001 by decide)
  have hv : v.toNat < 256 ^ 2 := v.isLt
  have hmax : v.toNat ≤ 0xFFFF := by omega
  refine writeCheck_ok hs (accessRow_flag hbounds hsub) (.inr (.inr rfl)) (natToBytes_length ..) ?_ ?_
  · rw [bytesToNat_natToBytes _ _ hv]
    simp [inRange, objectRange, flagRow, ht, hl, ha, hmax]
  · simp [writable, flagRow, isStaged, hp, hc, ht]

theorem writeCheck_pause {s : State} {p : Path} (hs : Serves s p) {v : Nat} (hv : v = 1 ∨ v = 2) :
    writeCheck s p 0x6030 1 (natToBytes v 1) = 0 := by
  have hbounds := bounds_of_supported hs.supported
  obtain ⟨hq, hp, hc, ht, hr, hl, ha⟩ := ofNoUnit hbounds (show 0x5000 ≤ 0x6030 by decide)
  refine writeCheck_ok hs (accessRow_pause hbounds) (.inr (.inr rfl)) (natToBytes_length ..) ?_ ?_
  · rw [bytesToNat_natToBytes _ _ (by omega)]
    rcases hv with rfl | rfl <;> simp [inRange, objectRange, pauseRow, ht, hl, ha]
  · simp [writable, pauseRow, isStaged, hp, hc, ht]

theorem objectRule_flag {s : State} (h : Bounds s.params) (p : Path) (sub : Nat) (v : U16) :
    objectRule s p 0x6001 sub (natToBytes v.toNat 2) none = flagObject s v.toNat (sub = 1) := by
  obtain ⟨hq, hp, hc, ht, hr, hl, ha⟩ := ofNoUnit h (show 0x5000 ≤ 0x6001 by decide)
  simp [objectRule, hq, hp, hc, ht, hl, ha, bytesToNat_natToBytes v.toNat 2 v.isLt]

theorem objectRule_pause {s : State} (h : Bounds s.params) (p : Path) {v : Nat} (hv : v < 256) :
    objectRule s p 0x6030 1 (natToBytes v 1) none = pauseCmd s v := by
  obtain ⟨hq, hp, hc, ht, hr, hl, ha⟩ := ofNoUnit h (show 0x5000 ≤ 0x6030 by decide)
  simp [objectRule, hq, hp, hc, ht, hl, ha, bytesToNat_natToBytes v 1 hv]

/-- A served write of a flag object (R195, R226). -/
theorem flagWrite_served {c : Instr} {s : State} {p : Path} {v : U16} {sub : Nat} {set : Bool} (hs : Serves s p)
    (he : exec c s = .next (rowWrite p 0x6001 sub v.toNat 2 s)) (hsub : sub = 1 ∨ sub = 2) (hset : decide (sub = 1) = set) :
    (v.toNat < 4096 → acceptedAs c s p { ready s 0x6001 with
      flags := flagPut s.flags v.toNat set
      taps := s.taps.map fun x => { x with mirror := flagPut x.mirror v.toNat set } }) ∧
    (4096 ≤ v.toNat → declinedAs c s p 5 (sump (ready s 0x6001) 0x0013 0 6 128 0xFF 0xFFFFFF 0 (u64 v.toNat))) := by
  have hrule : objectRule (ready s 0x6001) p 0x6001 sub (natToBytes v.toNat 2) none = flagObject (ready s 0x6001) v.toNat set :=
    hset ▸ objectRule_flag (by rw [ready_params]; exact bounds_of_supported hs.supported) p sub v
  refine ⟨fun h => row_accepted he hs (writeCheck_flag hs v hsub) (hrule.trans ?_),
    fun h => row_declined he hs (writeCheck_flag hs v hsub) (by decide) (by decide) (hrule.trans (if_neg (Nat.not_lt.mpr h)))⟩
  rw [flagObject, if_pos h, flagOp, ready_flags, ready_taps]

/-- Settles O7: the two objects set and clear the flag, and a write of a flag changes its bit alone. -/
theorem managementFlagWrites : Obligations.ManagementFlagWrites := by
  unfold Obligations.ManagementFlagWrites
  refine ⟨fun s p v hs => ?_, fun fl f b hf => ⟨getLsbD_flagPut_same fl b hf, fun g hg => getLsbD_flagPut_other fl b hg⟩⟩
  obtain ⟨hset, hsetRange⟩ := flagWrite_served (c := .odFlagSet p v) (set := true) hs rfl (.inl rfl) rfl
  obtain ⟨hclear, hclearRange⟩ := flagWrite_served (c := .odFlagClear p v) (set := false) hs rfl (.inr rfl) rfl
  exact ⟨fun h => ⟨hset h, hclear h⟩, fun h => ⟨hsetRange h, hclearRange h⟩⟩

/-! ### PAUSE_CMD (R222) -/

/-- The spans that a notice names: those of the leaf querns with a present input. -/
def noticeSpans (s : State) : List Span :=
  ((List.range s.params.leafQuerns).filter fun g => !(inputsOf s g).isEmpty).map (outSpan s)

/-- The notices of a kind for the active planes. -/
def noticesOf (s : State) (code : MsgCode) : List Instr :=
  (activePlanes s).map fun k => arriveUp (s.params.leafQuerns + k) 0 { code := code, plane := k, body := .spans (noticeSpans s) }

theorem outSpan_congr {s t : State} (h : cfg t = cfg s) (g : Nat) : outSpan t g = outSpan s g := by
  simp only [outSpan, h]

theorem noticesOf_congr {s t : State} (hp : t.params = s.params) (hc : cfg t = cfg s) (code : MsgCode) :
    noticesOf t code = noticesOf s code := by
  have hspans : noticeSpans t = noticeSpans s := by
    simp only [noticeSpans, inputsOf, hc, hp, funext (outSpan_congr hc)]
  simp only [noticesOf, activePlanes, hspans, hc, hp]

/-- Messages that leave one after the other, each made from the parameters, join what is in flight in order. -/
theorem forAll_post {α : Type} (l : List α) (s : State) (c : Params → α → Instr) :
    (forAll l s fun a k => post a (c a.params k)) = { s with onDie := s.onDie ++ l.map (c s.params) } := by
  induction l generalizing s with
  | nil => simp [forAll]
  | cons k l ih =>
    refine (ih (post s (c s.params k))).trans ?_
    simp [post]

theorem sendNotice_eq (s : State) (code : MsgCode) : sendNotice s code = { s with onDie := s.onDie ++ noticesOf s code } :=
  forAll_post (activePlanes s) s fun p k =>
    arriveUp (p.leafQuerns + k) 0 { code := code, plane := k, body := .spans (noticeSpans s) }

/-- A change of the querns leaves the configuration in force as it is, and so does the start of a request. -/
theorem cfg_of_querns {a s : State} (h : { a with querns := s.querns } = s) : cfg a = cfg s :=
  funext fun i => funext fun sub => cfg_congr (congrArg State.params h :) (congrArg State.nodeStrap h :)
    (congrArg State.i3cStrap h :) (congrArg State.inForce h :) i sub

theorem cfg_ready_eq (s : State) (i : Nat) : cfg (ready s i) = cfg s := funext fun j => funext fun sub => cfg_ready s i j sub

/-- `a` is `s` with the querns below `n` changed alone, each to one that has the property. -/
structure QuernsMade (s : State) (P : Nat → Quern → Prop) (n : Nat) (a : State) : Prop where
  frame : { a with querns := s.querns } = s
  count : a.querns.length = s.querns.length
  made : ∀ g < n, P g (quernAt a g)
  others : ∀ q, n ≤ q → quernAt a q = quernAt s q

/-- A change of each quern below `n` in turn, which makes the property of any quern. -/
theorem quernsMade_forAll {s : State} {P : Nat → Quern → Prop} {op : State → Nat → Quern → Quern}
    (hop : ∀ a, { a with querns := s.querns } = s → ∀ g x, P g (op a g x)) {n : Nat} (hn : n ≤ s.querns.length) :
    QuernsMade s P n (forAll (List.range n) s fun a g => modQuern a g (op a g)) := by
  induction n with
  | zero => exact ⟨rfl, rfl, by simp, fun _ _ => rfl⟩
  | succ n ih =>
    rw [List.range_succ, forAll, List.foldl_append]
    have h := ih (by omega)
    rw [forAll] at h
    generalize List.foldl _ s (List.range n) = a at h
    refine ⟨h.frame, (List.length_modify ..).trans h.count, fun g hg => ?_, fun q hq => ?_⟩
    · show P g (quernAt (modQuern a n (op a n)) g)
      by_cases e : n = g
      · subst e
        rw [quernAt_modQuern_same _ _ _ (by rw [h.count]; omega)]
        exact hop a h.frame n _
      · rw [quernAt_modQuern_other _ _ _ _ e]
        exact h.made g (by omega)
    · show quernAt (modQuern a n (op a n)) q = _
      rw [quernAt_modQuern_other _ _ _ _ (by omega)]
      exact h.others q (by omega)

/-- A quern as the PAUSE notice of its spans `l` leaves it, in state `s` at position `q`. -/
def Quern.pausedBy (s : State) (q : Nat) (l : List Span) (x : Quern) : Quern :=
  let new := l.filter fun p => !x.pausedSpans.contains p
  { x with
    notices := if new.isEmpty then x.notices else x.notices ++ [(odGet s 0x6020 0x06, new)]
    entries := if (inputsOf s q).any fun c => l.any fun p => spansMeet p c.span then x.entries.map fun e => { e with paused := true }
               else x.entries }

theorem markPaused_eq (s : State) (q : Nat) (l : List Span) : markPaused s q l = modQuern s q (Quern.pausedBy s q l) := rfl

/-- A quern that has the notice of a span holds it as paused, newly or from before. -/
theorem mem_pausedSpans_pausedBy (s : State) (q : Nat) (p : Span) (x : Quern) : p ∈ (Quern.pausedBy s q [p] x).pausedSpans := by
  have hspans : (Quern.pausedBy s q [p] x).pausedSpans = (if ([p].filter fun p => !x.pausedSpans.contains p).isEmpty then x.notices
      else x.notices ++ [(odGet s 0x6020 0x06, [p].filter fun p => !x.pausedSpans.contains p)]).flatMap Prod.snd := rfl
  rw [hspans]
  by_cases h : p ∈ x.pausedSpans
  · rw [List.filter_cons_of_neg (by simp [h]), if_pos (by rfl)]
    exact h
  · rw [List.filter_cons_of_pos (by simp [h]), if_neg (by simp)]
    simp

/-- A quern that has dropped its notices. -/
def Quern.resumed (x : Quern) : Quern := { x with notices := [] }

theorem pausedSpans_resumed (x : Quern) : x.resumed.pausedSpans = [] := rfl

/-- A state whose leaf querns a PAUSE or RESUME has marked, once PAUSE_STATE is stored and the notices are sent. -/
theorem QuernsMade.noticed {s m : State} {P : Nat → Quern → Prop} {n : Nat} (h : QuernsMade s P n m) (v : Nat) (code : MsgCode) :
    odGet (sendNotice (odSet m 0x6030 0x02 v) code) 0x6030 0x02 = v ∧
    (∀ g < n, P g (quernAt (sendNotice (odSet m 0x6030 0x02 v) code) g)) ∧
    (∀ q, n ≤ q → quernAt (sendNotice (odSet m 0x6030 0x02 v) code) q = quernAt s q) ∧
    (sendNotice (odSet m 0x6030 0x02 v) code).onDie = s.onDie ++ noticesOf s code ∧
    onlyObjects s (sendNotice (odSet m 0x6030 0x02 v) code) [(0x6030, 0x02)] ∧
    { sendNotice (odSet m 0x6030 0x02 v) code with od := s.od, querns := s.querns, onDie := s.onDie } = s := by
  have hparams : m.params = s.params := (congrArg State.params h.frame :)
  have hcfg : cfg (odSet m 0x6030 0x02 v) = cfg s :=
    (cfg_of_querns h.frame : cfg m = cfg s)
  rw [sendNotice_eq]
  refine ⟨odGet_odSet_same m 0x6030 0x02 v, h.made, h.others, ?_, fun i sub hsub hmem => ?_, ?_⟩
  · have hdie : m.onDie = s.onDie := (congrArg State.onDie h.frame :)
    rw [← noticesOf_congr hparams hcfg, ← hdie]
    rfl
  · exact (odGet_odSet_ne m 0x6030 0x02 v i sub (by decide) hsub (by simpa using hmem)).trans
      (odGet_congr hparams (congrArg State.nodeStrap h.frame :) (congrArg State.i3cStrap h.frame :) (congrArg State.od h.frame :) i
        sub)
  · exact congrArg (fun x : State => { x with od := s.od, onDie := s.onDie }) h.frame

/-- Every leaf quern has a record in the state. -/
theorem leafQuerns_le {s : State} (h : Shaped s) (htaps : 0 < s.params.taps) : s.params.leafQuerns ≤ s.querns.length := by
  rw [h.querns, Params.positions, if_pos htaps]
  omega

/-- The state in which PAUSE and RESUME have marked the leaf querns. -/
def leafPaused (s : State) : State := forAll (List.range s.params.leafQuerns) s fun s g => markPaused s g [outSpan s g]
def leafResumed (s : State) : State := forAll (List.range s.params.leafQuerns) s fun s g => modQuern s g Quern.resumed

theorem quernsMade_leafPaused {s : State} (hn : s.params.leafQuerns ≤ s.querns.length) :
    QuernsMade s (fun g x => outSpan s g ∈ x.pausedSpans) s.params.leafQuerns (leafPaused s) := by
  refine quernsMade_forAll (op := fun a g => Quern.pausedBy a g [outSpan a g]) (fun a ha g x => ?_) hn
  rw [outSpan_congr (cfg_of_querns ha)]
  exact mem_pausedSpans_pausedBy ..

theorem quernsMade_leafResumed {s : State} (hn : s.params.leafQuerns ≤ s.querns.length) :
    QuernsMade s (fun _ x => x.pausedSpans = []) s.params.leafQuerns (leafResumed s) :=
  quernsMade_forAll (op := fun _ _ => Quern.resumed) (fun _ _ _ x => pausedSpans_resumed x) hn

/-- A served PAUSE_CMD whose leaf querns are made to have a property, and whose value and notice are those of its code. -/
theorem pauseCmd_served {c : Instr} {s m : State} {p : Path} {v state : Nat} {code : MsgCode} {P : Nat → Quern → Prop}
    (hs : Serves s p) (hv : v = 1 ∨ v = 2) (he : exec c s = .next (rowWrite p 0x6030 1 v 1 s))
    (hrule : pauseCmd (ready s 0x6030) v = (sendNotice (odSet m 0x6030 0x02 state) code, 0))
    (hm : QuernsMade (ready s 0x6030) P s.params.leafQuerns m) :
    accepted c s p fun t =>
      odGet t 0x6030 0x02 = state ∧ (∀ g, g < s.params.leafQuerns → P g (quernAt t g)) ∧
      (∀ q, s.params.leafQuerns ≤ q → quernAt t q = quernAt s q) ∧ t.onDie = s.onDie ++ noticesOf s code ∧
      onlyObjects (ready s 0x6030) t [(0x6030, 0x02)] ∧
      { t with od := s.od, querns := s.querns, onDie := s.onDie } = { ready s 0x6030 with od := s.od } := by
  have hbounds : Bounds (ready s 0x6030).params := by rw [ready_params]; exact bounds_of_supported hs.supported
  obtain ⟨hobj, hmade, hothers, hdie, honly, hframe⟩ := hm.noticed state code
  refine ⟨_, row_accepted he hs (writeCheck_pause hs hv) ((objectRule_pause hbounds p (by omega)).trans hrule), hobj, hmade,
    fun q hq => ?_, ?_, honly, ?_⟩
  · rw [hothers q hq, quernAt_ready]
  · rw [hdie, ready_onDie, noticesOf_congr (ready_params ..) (cfg_ready_eq ..)]
  · rw [ready_querns, ready_onDie] at hframe
    exact congrArg (fun x : State => { x with od := s.od }) hframe

/-- Settles O9: the leaf querns take or drop their spans, the object its value, and the notices leave. -/
theorem pauseRequests : Obligations.PauseRequests := by
  unfold Obligations.PauseRequests
  intro s p hs hshape htaps
  have hn : (ready s 0x6030).params.leafQuerns ≤ (ready s 0x6030).querns.length := by
    rw [ready_params, ready_querns]
    exact leafQuerns_le hshape htaps
  have hzero : ¬ (ready s 0x6030).params.taps = 0 := by
    rw [ready_params]
    omega
  have hpaused := quernsMade_leafPaused hn
  have hresumed := quernsMade_leafResumed hn
  simp only [outSpan_congr (cfg_ready_eq s 0x6030), ready_params] at hpaused hresumed
  exact ⟨pauseCmd_served hs (.inl rfl) rfl (by rw [pauseCmd, if_neg hzero]; rfl) hpaused,
    pauseCmd_served hs (.inr rfl) rfl (by rw [pauseCmd, if_neg hzero]; rfl) hresumed⟩

end Sys2Proof.Machine
end

section
/-! PROOF. FETCH of a Gallery entry on an instance whose Gallery is in package memory (R343, R430). -/

namespace Sys2Proof.Machine

open Sys2Proof.Safety

/-! ### The request (R345) -/

/-- The row of Q_CMD (R345). -/
def queryCmdRow : ObjRow := ⟨4, 4, .enum8, .wo, [0], 1, 2⟩

theorem accessRow_queryCmd {s : State} (h : Bounds s.params) : accessRow s 0x5041 4 = some queryCmdRow := by
  obtain ⟨hq, hp, hc, ht, hr, hl, ha⟩ := ofNoUnit h (show 0x5000 ≤ 0x5041 by decide)
  simp [accessRow, objRow, rowsOf, hq, hp, hc, ht, hr, hl, ha, rowOf, rows5041, queryCmdRow]

/-- FETCH of an entry passes every check of R438. -/
theorem writeCheck_fetchEntry {s : State} {p : Path} (hs : Serves s p) : writeCheck s p 0x5041 4 (natToBytes 1 1) = 0 := by
  have hbounds := bounds_of_supported hs.supported
  obtain ⟨hq, hp, hc, ht, hr, hl, ha⟩ := ofNoUnit hbounds (show 0x5000 ≤ 0x5041 by decide)
  refine writeCheck_ok hs (accessRow_queryCmd hbounds) (.inr (.inr rfl)) (natToBytes_length ..) ?_ ?_
  · simp [inRange, objectRange, queryCmdRow, ht, hl, ha, bytesToNat_natToBytes]
  · simp [writable, queryCmdRow, isStaged, hp, hc, ht]

theorem objectRule_fetchEntry {s : State} (h : Bounds s.params) (p : Path) :
    objectRule s p 0x5041 4 (natToBytes 1 1) none = (doFetchEntry s, 0) := by
  obtain ⟨hq, hp, hc, ht, hr, hl, ha⟩ := ofNoUnit h (show 0x5000 ≤ 0x5041 by decide)
  simp [objectRule, hq, hp, hc, ht, hl, ha, bytesToNat_natToBytes]

/-- A served FETCH of an entry leaves what `doFetchEntry` does after the count of the request. -/
theorem fetchEntry_acceptedAs {s : State} {p : Path} (hs : Serves s p) :
    acceptedAs (.fetchEntry p) s p (doFetchEntry (ready s 0x5041)) :=
  row_accepted rfl hs (writeCheck_fetchEntry hs)
    (objectRule_fetchEntry (by rw [ready_params]; exact bounds_of_supported hs.supported) p)

/-- The states that a command may be accepted with have driven the same outputs. -/
theorem acceptedAs_outs {c : Instr} {s t u : State} {p : Path} (ht : acceptedAs c s p t) (hu : acceptedAs c s p u) :
    t.outs = u.outs := by
  have hemit : emit t (.odResponse p 0 []) = emit u (.odResponse p 0 []) := Host.Outcome.next.inj (ht.symm.trans hu)
  exact List.append_cancel_right (congrArg State.outs hemit)

/-! ### What FETCH finds (R343) -/

theorem queryRow_ready (s : State) (i : Nat) : queryRow (ready s i) = queryRow s := by
  simp only [queryRow, ready_gallery, odGet_ready s i 0x5041 0x01 (by decide) (by decide)]

theorem queryEntry_ready (s : State) (i : Nat) (r : GalRow) : queryEntry (ready s i) r = queryEntry s r := by
  simp only [queryEntry, tapped, ready_params, odGet_ready s i 0x5041 0x02 (by decide) (by decide),
    odGet_ready s i 0x5041 0x03 (by decide) (by decide)]

/-! ### The read of the partition (R430) -/

theorem odPutList_outs (s : State) (i sub : Nat) (vs : List Nat) : (odPutList s i sub vs).outs = s.outs :=
  forAll_same State.outs vs.zipIdx s _ fun _ _ => rfl

theorem putInputs_outs (s : State) (ds : List Nat) : (putInputs s ds).outs = s.outs :=
  (odPutList_outs ..).trans (odPutList_outs ..)

/-- Of a FETCH that finds its entry, only the access to the partition drives an output. -/
theorem doFetchEntry_outs {s : State} {r : GalRow} {e : GalEntry} (hr : queryRow s = some r) (he : queryEntry s r = some e) :
    (doFetchEntry s).outs = (galAccess s e.plane false).outs := by
  simp only [doFetchEntry, hr, he, odSet_outs, apply_ite State.outs, putInputs_outs, odPutList_outs, ite_self]

/-- An access to a Gallery in package memory drives a request at a package memory port. -/
theorem galAccess_outs_ne {s : State} (h : s.params.galleryPackage = true) (k : Nat) (write : Bool) :
    (galAccess s k write).outs ≠ s.outs := by
  simp [galAccess, packageRequest, h, emit, useFree]

/-- A FETCH that finds its entry in package memory never leaves the outputs as the count of the request left them. -/
theorem fetchEntry_package_outs {s t : State} {p : Path} {r : GalRow} {e : GalEntry} (hs : Serves s p)
    (hpackage : s.params.galleryPackage = true) (hr : queryRow s = some r) (he : queryEntry s r = some e)
    (ht : acceptedAs (.fetchEntry p) s p t) : t.outs ≠ (ready s 0x5041).outs := by
  rw [acceptedAs_outs ht (fetchEntry_acceptedAs hs),
    doFetchEntry_outs (by rw [queryRow_ready, hr]) (by rw [queryEntry_ready, he])]
  exact galAccess_outs_ne (by rw [ready_params, hpackage]) e.plane false

/-! ### A tapped instance with NL_GALLERY = PACKAGE (R24, R430) -/

/-- The record of a failed bucket, and a row of STEP 0 that holds it. -/
def failedEntry : GalEntry := { bucket := 0, sel := 0xFFFFFF, plane := 0, words := [0x1002, 0, 0, 0], inputs := [] }
def failedRow : GalRow := { step := 0, entries := [failedEntry], stepEddy := 0 }

/-- The Volxia of R24 with its Gallery in a partition of 1 MiB of package memory, which holds that row; Q_STEP, Q_BUCKET and Q_SEL, at
their defaults, name the entry, and the register port holds the lock. -/
def tappedPackage : State :=
  { odSet (State.powerOn { Config.volxia with galleryPackage := true } 0 0x08) 0x5040 0x02 (2 ^ 20) with
    lock := { holder := some .regPort }
    gallery := { rows := [failedRow] } }

theorem serves_tappedPackage : Serves tappedPackage .regPort where
  supported := by decide
  notResetting := rfl
  notSwapping := rfl
  enabled := by decide
  lock := rfl

theorem queryRow_tappedPackage : queryRow tappedPackage = some failedRow := by decide

theorem queryEntry_tappedPackage : queryEntry tappedPackage failedRow = some failedEntry := by decide

/-- Refutes O20: its clause of FETCH on a tapped instance leaves everything but objects as it was, and where NL_GALLERY is PACKAGE the
entry is read through a package memory port (R430): in `tappedPackage`, the outputs have one request more. -/
theorem not_galleryRequests : ¬ Obligations.GalleryRequests := by
  unfold Obligations.GalleryRequests
  rintro ⟨hrequests, -, -⟩
  obtain ⟨-, -, hfetch, -⟩ := hrequests tappedPackage .regPort serves_tappedPackage
  obtain ⟨t, ht, -, -, -, hframe⟩ := hfetch failedRow failedEntry queryRow_tappedPackage queryEntry_tappedPackage rfl
  exact fetchEntry_package_outs serves_tappedPackage rfl queryRow_tappedPackage queryEntry_tappedPackage ht
    (congrArg State.outs hframe :)

end Sys2Proof.Machine
end

section
/-! PROOF. Spares, the sump and injections that management asks for (R358, R367, R371, R405, R438). -/

namespace Sys2Proof.Machine

open Sys2Proof.Config (Params)
open Sys2Proof.Safety

/-! ### Writes of write-only objects (R438) -/

/-- A write of a value in range to a write-only object that is not staged passes every check. -/
theorem writeCheck_writeOnly {s : State} {p : Path} {i sub v : Nat} {r : ObjRow} (hs : Serves s p) (hrow : accessRow s i sub = some r)
    (hacc : r.acc = .wo) (hty : r.ty ≠ .bool) (hfit : v < 256 ^ r.ty.bytes) (hmin : r.min ≤ v) (hmax : v ≤ r.max)
    (hrange : objectRange s i sub v = true) (hstaged : isStaged s i sub = false) :
    writeCheck s p i sub (natToBytes v r.ty.bytes) = 0 := by
  refine writeCheck_ok hs hrow (.inr (.inr hacc)) (natToBytes_length ..) ?_ ?_
  · rw [bytesToNat_natToBytes _ _ hfit]
    simp [inRange, hty, hmin, hmax, hrange]
  · simp [writable, hacc, hstaged]

/-- The objects of the instance as a whole from 0x6000 on are not staged, and those below the microcode's have no range rule of their
own (R381, R399). -/
theorem isStaged_instance {s : State} (h : Bounds s.params) {i : Nat} (hi : 0x6000 ≤ i) (sub : Nat) : isStaged s i sub = false := by
  obtain ⟨hq, hp, hc, ht, hr, hl, ha⟩ := ofNoUnit h (show 0x5000 ≤ i by omega)
  have hne : i ≠ 0x2200 ∧ i ≠ 0x2201 ∧ i ≠ 0x5000 ∧ i ≠ 0x2000 := by omega
  simp [isStaged, hp, hc, ht, hne]

theorem objectRange_instance {s : State} (h : Bounds s.params) {i : Nat} (hi : 0x6000 ≤ i) (hi' : i < 0x7F00) (sub v : Nat) :
    objectRange s i sub v = true := by
  obtain ⟨hq, hp, hc, ht, hr, hl, ha⟩ := ofNoUnit h (show 0x5000 ≤ i by omega)
  have hne : i ≠ 0x1100 ∧ i ≠ 0x4110 ∧ i ≠ 0x5040 ∧ i ≠ 0x7F00 := by omega
  simp [objectRange, ht, hl, ha, hne]

/-- A write of a write-only object of the instance in its range passes every check. -/
theorem writeCheck_instance {s : State} {p : Path} {i sub v : Nat} {r : ObjRow} (hs : Serves s p) (hi : 0x6000 ≤ i) (hi' : i < 0x7F00)
    (hrow : accessRow s i sub = some r) (hacc : r.acc = .wo) (hty : r.ty ≠ .bool) (hfit : v < 256 ^ r.ty.bytes) (hmin : r.min ≤ v)
    (hmax : v ≤ r.max) : writeCheck s p i sub (natToBytes v r.ty.bytes) = 0 :=
  writeCheck_writeOnly hs hrow hacc hty hfit hmin hmax (objectRange_instance (bounds_of_supported hs.supported) hi hi' sub v)
    (isStaged_instance (bounds_of_supported hs.supported) hi sub)

/-! ### SPARE_IN (R358, R379) -/

/-- The row of SPARE_IN. -/
def spareInRow : ObjRow := ⟨3, 3, .u8, .wo, [0], 0, 0xFF⟩

theorem accessRow_spareIn {s : State} (h : Bounds s.params) {q : Nat} (hq : q < s.params.querns) :
    accessRow s (0x2100 + q) 3 = some spareInRow := by
  simp [accessRow, objRow, rowsOf_quern _ _ h hq, rowOf, rows2100, spareInRow]

theorem writeCheck_spareIn {s : State} {p : Path} (hs : Serves s p) {q n : Nat} (hq : q < s.params.querns) (hn : n ≤ 0xFF) :
    writeCheck s p (0x2100 + q) 3 (natToBytes n 1) = 0 := by
  have h := bounds_of_supported hs.supported
  have hqs := h.querns
  have noUnit (b k : Nat) (hb : 0x2210 ≤ b) : inIdx (0x2100 + q) b k = false := inIdx_false (.inl (by omega))
  refine writeCheck_writeOnly (r := spareInRow) hs (accessRow_spareIn h hq) rfl (by decide) (Nat.lt_succ_of_le hn) (Nat.zero_le n) hn ?_ ?_
  · have hne : 0x2100 + q ≠ 0x4110 ∧ 0x2100 + q ≠ 0x5040 := by omega
    simp [objectRange, noUnit, hne]
  · have hne : 0x2100 + q ≠ 0x2200 ∧ 0x2100 + q ≠ 0x2201 ∧ 0x2100 + q ≠ 0x5000 ∧ 0x2100 + q ≠ 0x2000 := by omega
    simp [isStaged, noUnit, hne]

theorem objectRule_spareIn {s : State} (p : Path) {q n : Nat} (hq : q < s.params.querns) (hn : n ≤ 0xFF) :
    objectRule s p (0x2100 + q) 3 (natToBytes n 1) none = doSpareIn s q n := by
  have hidx : inIdx (0x2100 + q) 0x2100 s.params.querns = true := inIdx_true (by omega)
  have hne : 0x2100 + q ≠ 0x1100 := by omega
  simp [objectRule, hidx, hne, bytesToNat_natToBytes n 1 (Nat.lt_succ_of_le hn)]

/-- Quern `q`, which served position `r`, gives it up for spare `n`. -/
def Quern.givenUp (q n : Nat) (x : Quern) : Quern :=
  { x with server := none, switching := some n, fenceFail := some { noFail with obj := q }, entries := [], merges := [], scaleRecs := [] }

section
variable {s : State} {q r n : Nat} (hpos : positionOf s q = some r)
include hpos

theorem doSpareIn_unfit (h : spareFree s n = false ∨ spareFits s.params n r = false) : doSpareIn s q n = (s, 5) := by
  rcases h with h | h <;> simp [doSpareIn, hpos, h]

theorem doSpareIn_undrained (hfree : spareFree s n = true) (hfits : spareFits s.params n r = true) {k : Nat} (hk : k ∈ planesOf s r)
    (h : planeState s k ≠ 3) : doSpareIn s q n = (s, 8) := by
  have hsome : ∃ k ∈ planesOf s r, planeState s k ≠ 3 := ⟨k, hk, h⟩
  simpa [doSpareIn, hpos, hfree, hfits] using hsome

theorem doSpareIn_drained (hfree : spareFree s n = true) (hfits : spareFits s.params n r = true)
    (h : ∀ k ∈ planesOf s r, planeState s k = 3) : doSpareIn s q n = (modQuern s r (Quern.givenUp q n), 0) := by
  have hall : ((planesOf s r).all fun k => planeState s k = 3) = true := by simpa using h
  simp only [doSpareIn, hpos, hfree, hfits, hall, Bool.and_self, Bool.not_true, Bool.false_eq_true, if_false]
  rfl

end

@[simp] theorem positionOf_ready (s : State) (i n : Nat) : positionOf (ready s i) n = positionOf s n := by simp [positionOf]

@[simp] theorem spareFree_ready (s : State) (i n : Nat) : spareFree (ready s i) n = spareFree s n := by simp [spareFree]

@[simp] theorem planesOf_ready (s : State) (i q : Nat) : planesOf (ready s i) q = planesOf s q := by simp [planesOf, isLeaf]

/-- Every plane of a position is a plane of the instance. -/
theorem lt_planes_of_mem_planesOf {s : State} {q k : Nat} (h : k ∈ planesOf s q) : k < s.params.planes := by
  unfold planesOf at h
  split at h
  · exact List.mem_range.mp (List.mem_filter.mp h).1
  · dsimp only at h
    split at h
    next hc =>
      rw [List.mem_singleton.mp h]
      exact of_decide_eq_true (Bool.and_eq_true_iff.mp hc).1
    · simp at h

theorem planeState_ready {s : State} (h : Bounds s.params) (i : Nat) {q k : Nat} (hk : k ∈ planesOf s q) :
    planeState (ready s i) k = planeState s k := by
  have hlt := lt_planes_of_mem_planesOf hk
  have hle := h.planes
  exact odGet_ready s i _ 0x09 (by decide) (by omega)

/-- Settles O12: the write passes every check, and the rule of SPARE_IN decides by the spare and the planes of the position. -/
theorem spareRequests : Obligations.SpareRequests := by
  unfold Obligations.SpareRequests
  intro s p q r n hs hq hpos hn hlt
  have h := bounds_of_supported hs.supported
  have hle : n ≤ 0xFF := by
    have := h.querns
    omega
  have he : exec (.spareIn p q n) s = .next (rowWrite p (0x2100 + q) 3 n 1 s) := by
    show Host.Outcome.next (rowWrite p (unitIndex 0x2100 q s.params.querns) 3 (min n 0xFF) 1 s) = _
    rw [unitIndex, if_pos hq, Nat.min_eq_left hle]
  have hc := writeCheck_spareIn hs hq hle
  have hrule := objectRule_spareIn (s := ready s (0x2100 + q)) p (q := q) (by simpa using hq) hle
  have hpos' : positionOf (ready s (0x2100 + q)) q = some r := by simpa using hpos
  refine ⟨fun hfree hfits hdrained => ?_, fun k hfree hfits hk hstate => ?_, fun hunfit => ?_⟩
  · refine row_accepted he hs hc (hrule.trans (doSpareIn_drained hpos' (by simpa using hfree) (by simpa using hfits) fun k hk => ?_))
    rw [planesOf_ready] at hk
    rw [planeState_ready h _ hk, hdrained k hk]
  · refine row_conflict he hs hc (by omega)
      (hrule.trans (doSpareIn_undrained (k := k) hpos' (by simpa using hfree) (by simpa using hfits) ?_ ?_))
    · rwa [planesOf_ready]
    · rwa [planeState_ready h _ hk]
  · exact row_declined he hs hc (by decide) (by decide) (hrule.trans (doSpareIn_unfit hpos' (by simpa using hunfit)))

/-! ### SUMP_CLEAR and INJ_CMD (R367, R371, R405) -/

/-- The index is of no counters of a plane, an adit port or a quern. -/
structure OfNoCounters (p : Params) (i : Nat) : Prop where
  planes : inIdx i 0x7008 p.planes = false
  adits : inIdx i 0x7018 p.aditPorts = false
  querns : inIdx i 0x7020 p.querns = false

theorem ofNoCounters {p : Params} (h : Bounds p) {i : Nat} (hi : i = 0x7010 ∨ i = 0x7038) : OfNoCounters p i := by
  obtain ⟨ht, hp, hpos, hq, hl, ha⟩ := h
  constructor <;> exact inIdx_false (by omega)

/-- The rows of SUMP_CLEAR and INJ_CMD. -/
def sumpClearRow : ObjRow := ⟨0x0D, 0x0D, .enum8, .wo, [0], 1, 1⟩
def injectRow : ObjRow := ⟨4, 4, .enum8, .wo, [0], 1, 2⟩

theorem accessRow_sumpClear {s : State} (h : Bounds s.params) : accessRow s 0x7000 0x0D = some sumpClearRow := by
  obtain ⟨hq, hp, hc, ht, hr, hl, ha⟩ := ofNoUnit h (show 0x5000 ≤ 0x7000 by decide)
  simp [accessRow, objRow, rowsOf, hq, hp, hc, ht, hr, hl, ha, rowOf, rows7000, sumpClearRow]

theorem accessRow_inject {s : State} (h : Bounds s.params) : accessRow s 0x7038 4 = some injectRow := by
  obtain ⟨hq, hp, hc, ht, hr, hl, ha⟩ := ofNoUnit h (show 0x5000 ≤ 0x7038 by decide)
  obtain ⟨hp', ha', hq'⟩ := ofNoCounters h (i := 0x7038) (by omega)
  simp [accessRow, objRow, rowsOf, hq, hp, hc, ht, hr, hl, ha, hp', ha', hq', rowOf, rows7038, injectRow]

theorem writeCheck_sumpClear {s : State} {p : Path} (hs : Serves s p) : writeCheck s p 0x7000 0x0D (natToBytes 1 1) = 0 :=
  writeCheck_instance hs (by decide) (by decide) (accessRow_sumpClear (bounds_of_supported hs.supported)) rfl (by decide) (by decide)
    (by decide) (by decide)

theorem writeCheck_inject {s : State} {p : Path} (hs : Serves s p) {v : Nat} (hv : v = 1 ∨ v = 2) :
    writeCheck s p 0x7038 4 (natToBytes v 1) = 0 := by
  refine writeCheck_instance (r := injectRow) hs (by decide) (by decide) (accessRow_inject (bounds_of_supported hs.supported)) rfl
    (by decide) ?_ ?_ ?_ <;> rcases hv with rfl | rfl <;> decide

theorem objectRule_sumpClear {s : State} (h : Bounds s.params) (p : Path) (data : List Byte) :
    objectRule s p 0x7000 0x0D data none = (doSumpClear s, 0) := by
  obtain ⟨hq, hp, hc, ht, hr, hl, ha⟩ := ofNoUnit h (show 0x5000 ≤ 0x7000 by decide)
  simp [objectRule, hq, hp, hc, ht, hl, ha]

theorem objectRule_inject {s : State} (h : Bounds s.params) (p : Path) {v : Nat} (hv : v < 256) :
    objectRule s p 0x7038 4 (natToBytes v 1) none = injectCmd s v := by
  obtain ⟨hq, hp, hc, ht, hr, hl, ha⟩ := ofNoUnit h (show 0x5000 ≤ 0x7038 by decide)
  simp [objectRule, hq, hp, hc, ht, hl, ha, bytesToNat_natToBytes v 1 hv]

/-- The kinds of injection that the unit named in 0x7038:02 has. -/
def kindsSetUp (s : State) : List Nat := injectKinds s (bitsOf (odGet s 0x7038 2) 15 8) (bitsOf (odGet s 0x7038 2) 7 0)

/-- The injection set up in 0x7038, armed. -/
def injectionSetUp (s : State) : Inject :=
  { armed := true, kind := odGet s 0x7038 1, objKind := bitsOf (odGet s 0x7038 2) 15 8, unit := bitsOf (odGet s 0x7038 2) 7 0
    left := odGet s 0x7038 3 }

theorem kindsSetUp_ready (s : State) : kindsSetUp (ready s 0x7038) = kindsSetUp s := by
  simp [kindsSetUp, injectKinds, odGet_ready]

theorem injectionSetUp_ready (s : State) : injectionSetUp (ready s 0x7038) = injectionSetUp s := by
  simp [injectionSetUp, odGet_ready]

theorem injectCmd_arm {s : State} (hidle : s.inject.armed = false) (hkind : odGet s 0x7038 1 ∈ kindsSetUp s) :
    injectCmd s 1 = (odSet (odSet { s with inject := injectionSetUp s } 0x7038 5 1) 0x7038 6 0, 0) := by
  have hgo : (s.inject.armed || !(kindsSetUp s).contains (odGet s 0x7038 1)) = false := by simp [hidle, hkind]
  exact (if_pos rfl).trans (if_neg (ne_true_of_eq_false hgo))

theorem injectCmd_arm_refused {s : State} (h : s.inject.armed = true ∨ odGet s 0x7038 1 ∉ kindsSetUp s) : injectCmd s 1 = (s, 5) := by
  have hstop : (s.inject.armed || !(kindsSetUp s).contains (odGet s 0x7038 1)) = true := by simpa using h
  exact (if_pos rfl).trans (if_pos hstop)

/-- Settles O14: each write passes every check, and the rules of SUMP_CLEAR and INJ_CMD change the sump and the injection alone. -/
theorem sumpAndInjectionRequests : Obligations.SumpAndInjectionRequests := by
  unfold Obligations.SumpAndInjectionRequests
  intro s p hs
  have h (i : Nat) : Bounds (ready s i).params := by
    rw [ready_params]
    exact bounds_of_supported hs.supported
  have harmRule := objectRule_inject (h 0x7038) p (v := 1) (by decide)
  have hdisarmRule := objectRule_inject (h 0x7038) p (v := 2) (by decide)
  have hkindReady : odGet (ready s 0x7038) 0x7038 1 = odGet s 0x7038 1 := odGet_ready s _ _ _ (by decide) (by decide)
  refine ⟨?_, fun hidle hkind => ?_, fun hrefused => ?_, row_accepted rfl hs (writeCheck_inject hs (.inr rfl)) hdisarmRule⟩
  · refine row_accepted rfl hs (writeCheck_sumpClear hs) ((objectRule_sumpClear (h 0x7000) p _).trans ?_)
    rw [doSumpClear, ready_sump]
  · refine row_accepted rfl hs (writeCheck_inject hs (.inl rfl)) (harmRule.trans ?_)
    rw [injectCmd_arm (by simpa using hidle) (by rw [kindsSetUp_ready, hkindReady]; exact hkind), injectionSetUp_ready]
    rfl
  · refine row_declined rfl hs (writeCheck_inject hs (.inl rfl)) (by decide) (by decide) (harmRule.trans (injectCmd_arm_refused ?_))
    rw [kindsSetUp_ready, hkindReady, ready_inject]
    exact hrefused

end Sys2Proof.Machine
end

section
/-! PROOF. Counters that management restarts or clears (R378, R404). -/

namespace Sys2Proof.Machine

open Sys2Proof.Safety

/-! ### Register files and objects that a test removes -/

/-- Without the keys that fail a test, a register file reads a reset value under each of these and as before under the others. -/
theorem RegFile.get_filter (f : Nat → Bool) (d k : Nat) (r : RegFile) :
    RegFile.get d k (r.filter fun x => f x.1) = if f k then RegFile.get d k r else d := by
  induction r with
  | nil => simp [RegFile.get]
  | cons x r ih =>
    obtain ⟨j, v⟩ := x
    by_cases hj : f j = true
    · rw [List.filter_cons_of_pos (by simpa using hj)]
      by_cases e : j = k
      · subst e
        simp [RegFile.get, hj]
      · simpa [RegFile.get, e] using ih
    · rw [List.filter_cons_of_neg (by simpa using hj), ih]
      by_cases e : j = k
      · subst e
        simp [hj]
      · simp [RegFile.get, e]

/-- Objects that pass the test read their reset values, the others what they read before. -/
theorem odGet_defaultObjects (s : State) (f : Nat → Nat → Bool) {i sub : Nat} (hsub : sub < 256) :
    odGet (defaultObjects s f) i sub = if f i sub then odReset s i sub else odGet s i sub := by
  have hi : odKey i sub / 256 = i := by unfold odKey; omega
  have hb : odKey i sub % 256 = sub := by unfold odKey; omega
  have hget := RegFile.get_filter (fun x => !f (x / 256) (x % 256)) (odReset s i sub) (odKey i sub) s.od
  rw [hi, hb] at hget
  refine hget.trans ?_
  cases f i sub <;> rfl

/-! ### COUNTERS_CLEAR (R404) -/

/-- The row of COUNTERS_CLEAR. -/
def countersClearRow : ObjRow := ⟨1, 1, .enum8, .wo, [0], 1, 1⟩

theorem accessRow_countersClear {s : State} (h : Bounds s.params) : accessRow s 0x7001 1 = some countersClearRow := by
  obtain ⟨hq, hp, hc, ht, hr, hl, ha⟩ := ofNoUnit h (show 0x5000 ≤ 0x7001 by decide)
  simp [accessRow, objRow, rowsOf, hq, hp, hc, ht, hr, hl, ha, rowOf, countersClearRow]

theorem writeCheck_countersClear {s : State} {p : Path} (hs : Serves s p) : writeCheck s p 0x7001 1 (natToBytes 1 1) = 0 :=
  writeCheck_instance hs (by decide) (by decide) (accessRow_countersClear (bounds_of_supported hs.supported)) rfl (by decide) (by decide)
    (by decide) (by decide)

theorem objectRule_countersClear {s : State} (h : Bounds s.params) (p : Path) (data : List Byte) :
    objectRule s p 0x7001 1 data none = (countersClearDo s, 0) := by
  obtain ⟨hq, hp, hc, ht, hr, hl, ha⟩ := ofNoUnit h (show 0x5000 ≤ 0x7001 by decide)
  simp [objectRule, hq, hp, hc, ht, hl, ha]

theorem nonAudit_ready (s : State) (i j sub : Nat) : nonAudit (ready s i) j sub = nonAudit s j sub := by
  simp only [nonAudit, ready_params]

theorem odReset_ready (s : State) (i j sub : Nat) : odReset (ready s i) j sub = odReset s j sub := by
  simp only [odReset, objRow, ready_params, ready_nodeStrap, ready_i3cStrap]

/-! ### COUNT_REBASE (R378) -/

/-- The row of COUNT_REBASE. -/
def countRebaseRow : ObjRow := ⟨3, 3, .bits32, .wo, [0], 0, 0xFFFFFFFF⟩

theorem accessRow_countRebase {s : State} (h : Bounds s.params) : accessRow s 0x7010 3 = some countRebaseRow := by
  obtain ⟨hq, hp, hc, ht, hr, hl, ha⟩ := ofNoUnit h (show 0x5000 ≤ 0x7010 by decide)
  have hp' := (ofNoCounters h (i := 0x7010) (by omega)).planes
  simp [accessRow, objRow, rowsOf, hq, hp, hc, ht, hr, hl, ha, hp', rowOf, rows7010, countRebaseRow]

theorem writeCheck_countRebase {s : State} {p : Path} (hs : Serves s p) (v : U32) :
    writeCheck s p 0x7010 3 (natToBytes v.toNat 4) = 0 :=
  writeCheck_instance (r := countRebaseRow) hs (by decide) (by decide) (accessRow_countRebase (bounds_of_supported hs.supported)) rfl
    (by decide) v.isLt (Nat.zero_le _) (Nat.le_of_lt_succ v.isLt)

theorem objectRule_countRebase {s : State} (h : Bounds s.params) (p : Path) (v : U32) :
    objectRule s p 0x7010 3 (natToBytes v.toNat 4) none = countRebaseDo s v.toNat := by
  obtain ⟨hq, hp, hc, ht, hr, hl, ha⟩ := ofNoUnit h (show 0x5000 ≤ 0x7010 by decide)
  simp [objectRule, hq, hp, hc, ht, hl, ha, bytesToNat_natToBytes v.toNat 4 v.isLt]

theorem planeInFlight_ready (s : State) (i k : Nat) : planeInFlight (ready s i) k = planeInFlight s k := by
  simp only [planeInFlight, ready_taps, ready_querns]

/-- ISSUED, DELIVERED and ACCEPTED of plane `k` read 0 at tap `u`. -/
def tapZero (s : State) (u k : Nat) : Prop :=
  odGet s (0x7080 + u) (0x01 + k) = 0 ∧ odGet s (0x7080 + u) (0x09 + k) = 0 ∧ odGet s (0x7080 + u) (0x11 + k) = 0

/-- ACCEPTED of plane `k` reads 0 at each input of position `q`. -/
def quernZero (s : State) (q k : Nat) : Prop := ∀ i < 16, RegFile.get 0 (k * 16 + i) (quernAt s q).accepted = 0

/-- An object that reads 0 does so after a 0 is stored anywhere. -/
theorem odGet_odSet_zero {s : State} {i sub : Nat} (h : odGet s i sub = 0) (hsub : sub < 256) (j : Nat) {sub' : Nat} (hsub' : sub' < 256) :
    odGet (odSet s j sub' 0) i sub = 0 := by
  by_cases e : (i, sub) = (j, sub')
  · obtain ⟨rfl, rfl⟩ := Prod.mk.inj e
    exact odGet_odSet_same ..
  · rw [odGet_odSet_ne _ _ _ _ _ _ hsub' hsub e, h]

theorem odGet_tapRebase_zero {s : State} {i sub : Nat} (h : odGet s i sub = 0) (hsub : sub < 256) (t : Nat) {k : Nat} (hk : k < 8) :
    odGet (tapRebase s t k) i sub = 0 :=
  odGet_odSet_zero (odGet_odSet_zero (odGet_odSet_zero h hsub _ (by omega)) hsub _ (by omega)) hsub _ (by omega)

/-- A rebase of a tap leaves what reads 0 at 0. -/
theorem tapZero_tapRebase {s : State} {u k : Nat} (h : tapZero s u k) (hk : k < 8) (t : Nat) {k' : Nat} (hk' : k' < 8) :
    tapZero (tapRebase s t k') u k := by
  obtain ⟨hissued, hdelivered, haccepted⟩ := h
  exact ⟨odGet_tapRebase_zero hissued (by omega) t hk', odGet_tapRebase_zero hdelivered (by omega) t hk',
    odGet_tapRebase_zero haccepted (by omega) t hk'⟩

theorem tapZero_tapRebase_same (s : State) (t : Nat) {k : Nat} (hk : k < 8) : tapZero (tapRebase s t k) t k := by
  refine ⟨odGet_odSet_zero (odGet_odSet_zero (odGet_odSet_same ..) ?_ _ ?_) ?_ _ ?_, odGet_odSet_zero (odGet_odSet_same ..) ?_ _ ?_,
    odGet_odSet_same ..⟩ <;> omega

/-- A position that the state has no record for holds no count. -/
theorem quernAt_of_le {s : State} {q : Nat} (h : s.querns.length ≤ q) : quernAt s q = {} := by
  simp [quernAt, List.getD_eq_getElem?_getD, h]

/-- ACCEPTED of a position after a rebase of plane `k`: the counts of the other planes. -/
theorem quernAccepted_quernRebase (s : State) (q k : Nat) :
    (quernAt (quernRebase s q k) q).accepted = (quernAt s q).accepted.filter fun a => a.1 / 16 != k := by
  by_cases h : q < s.querns.length
  · rw [quernRebase, quernAt_modQuern_same _ _ _ h]
  · have hlen : (quernRebase s q k).querns.length ≤ q := by simpa [quernRebase] using h
    rw [quernAt_of_le hlen, quernAt_of_le (Nat.not_lt.mp h)]
    rfl

theorem quernZero_quernRebase_same (s : State) (q k : Nat) : quernZero (quernRebase s q k) q k := by
  intro i hi
  have hk : (k * 16 + i) / 16 = k := by omega
  rw [quernAccepted_quernRebase, RegFile.get_filter (fun a => a / 16 != k), hk]
  simp

/-- A rebase of a position leaves what reads 0 at 0. -/
theorem quernZero_quernRebase {s : State} {q k : Nat} (h : quernZero s q k) (r k' : Nat) : quernZero (quernRebase s r k') q k := by
  intro i hi
  by_cases e : r = q
  · subst e
    rw [quernAccepted_quernRebase, RegFile.get_filter (fun a => a / 16 != k'), h i hi]
    exact ite_self 0
  · rw [quernRebase, quernAt_modQuern_other _ _ _ _ e]
    exact h i hi

/-- What one element of a list establishes, and every element keeps, holds after all of them. -/
theorem forAll_establishes {α : Type} {P : State → Prop} {l : List α} {a : α} {f : State → α → State} (ha : a ∈ l)
    (hset : ∀ s, P (f s a)) (hkeep : ∀ s, P s → ∀ b ∈ l, P (f s b)) (s : State) : P (forAll l s f) := by
  obtain ⟨before, after, rfl⟩ := List.append_of_mem ha
  rw [forAll, List.foldl_append]
  exact List.foldlRecOn after f (hset _) fun t ht b hb => hkeep t ht b (by simp [hb])

/-- The planes of the instance that a write of COUNT_REBASE names. -/
def rebasedPlanes (s : State) (v : Nat) : List Nat := (List.range s.params.planes).filter fun k => bitOf v k

theorem mem_rebasedPlanes {s : State} {v k : Nat} : k ∈ rebasedPlanes s v ↔ k < s.params.planes ∧ bitOf v k = true := by
  simp [rebasedPlanes]

theorem rebasedPlanes_ready (s : State) (i v : Nat) : rebasedPlanes (ready s i) v = rebasedPlanes s v := by
  rw [rebasedPlanes, ready_params, rebasedPlanes]

/-- Plane `k` rebased at every tap, and then at every position. -/
def tapsRebased (s : State) (k : Nat) : State := forAll (List.range s.params.taps) s fun s t => tapRebase s t k
def planeRebased (s : State) (k : Nat) : State :=
  forAll (List.range s.params.positions) (tapsRebased s k) fun s q => quernRebase s q k

theorem countRebaseDo_busy {s : State} {v k : Nat} (hk : k ∈ rebasedPlanes s v) (h : planeInFlight s k = true) :
    countRebaseDo s v = (s, 8) := if_pos (List.any_eq_true.mpr ⟨k, hk, h⟩)

theorem countRebaseDo_idle {s : State} {v : Nat} (h : ∀ k ∈ rebasedPlanes s v, planeInFlight s k = false) :
    countRebaseDo s v = (forAll (rebasedPlanes s v) s planeRebased, 0) := by
  have hidle : (rebasedPlanes s v).any (planeInFlight s) = false := by simpa using h
  exact if_neg (ne_true_of_eq_false hidle)

theorem planeRebased_params (s : State) (k : Nat) : (planeRebased s k).params = s.params :=
  (forAll_same State.params _ _ (fun a q => quernRebase a q k) fun _ _ => rfl).trans
    (forAll_same State.params _ s (fun a t => tapRebase a t k) fun _ _ => rfl)

section
variable {u q k k' : Nat}

/-- A rebase of a plane at the positions leaves the counters of the taps as they are. -/
theorem tapZero_planeRebased {s : State} (h : tapZero (tapsRebased s k') u k) : tapZero (planeRebased s k') u k :=
  forAll_keeps (fun a => tapZero a u k) _ _ (fun a q => quernRebase a q k') h fun _ _ h => h

theorem tapZero_planeRebased_same {s : State} (hk : k < 8) (hu : u < s.params.taps) : tapZero (planeRebased s k) u k := by
  apply tapZero_planeRebased
  exact forAll_establishes (P := fun a => tapZero a u k) (f := fun a t => tapRebase a t k) (List.mem_range.mpr hu)
    (fun a => tapZero_tapRebase_same a u hk) (fun _ h t _ => tapZero_tapRebase h hk t hk) s

theorem tapZero_planeRebased_keeps {s : State} (h : tapZero s u k) (hk : k < 8) (hk' : k' < 8) :
    tapZero (planeRebased s k') u k := by
  apply tapZero_planeRebased
  exact forAll_keeps (fun a => tapZero a u k) _ _ (fun a t => tapRebase a t k') h fun _ t h => tapZero_tapRebase h hk t hk'

theorem quernZero_planeRebased_same {s : State} (hq : q < s.params.positions) : quernZero (planeRebased s k) q k :=
  forAll_establishes (P := fun a => quernZero a q k) (f := fun a r => quernRebase a r k) (List.mem_range.mpr hq)
    (fun a => quernZero_quernRebase_same a q k) (fun _ h r _ => quernZero_quernRebase h r k) _

theorem quernZero_planeRebased_keeps {s : State} (h : quernZero s q k) (k' : Nat) : quernZero (planeRebased s k') q k :=
  forAll_keeps (fun a => quernZero a q k) _ _ (fun a r => quernRebase a r k')
    (forAll_keeps (fun a => quernZero a q k) _ s (fun a t => tapRebase a t k') h fun _ _ h => h)
    fun _ r h => quernZero_quernRebase h r k'

/-- Each plane that is rebased reads 0 at every tap and position of the instance, whichever planes are rebased after it. -/
theorem tapZero_rebased {s : State} {ks : List Nat} (hks : ∀ k ∈ ks, k < 8) (hk : k ∈ ks) (hu : u < s.params.taps) :
    tapZero (forAll ks s planeRebased) u k := by
  refine forAll_establishes (P := fun a => u < a.params.taps → tapZero a u k) hk (fun a ha => ?_) (fun a h k' hk' ha => ?_) s ?_
  · rw [planeRebased_params] at ha
    exact tapZero_planeRebased_same (hks k hk) ha
  · rw [planeRebased_params] at ha
    exact tapZero_planeRebased_keeps (h ha) (hks k hk) (hks k' hk')
  · rwa [forAll_same State.params ks s planeRebased planeRebased_params]

theorem quernZero_rebased {s : State} {ks : List Nat} (hk : k ∈ ks) (hq : q < s.params.positions) :
    quernZero (forAll ks s planeRebased) q k := by
  refine forAll_establishes (P := fun a => q < a.params.positions → quernZero a q k) hk (fun a ha => ?_) (fun a h k' hk' ha => ?_) s ?_
  · rw [planeRebased_params] at ha
    exact quernZero_planeRebased_same ha
  · rw [planeRebased_params] at ha
    exact quernZero_planeRebased_keeps (h ha) k'
  · rwa [forAll_same State.params ks s planeRebased planeRebased_params]

end

/-- Settles O13: an idle rebase leaves 0 at every tap and position of its planes, and a clear removes the counters that its test names. -/
theorem counterRequests : Obligations.CounterRequests := by
  unfold Obligations.CounterRequests
  intro s p v hs _
  have hbounds := bounds_of_supported hs.supported
  have h (i : Nat) : Bounds (ready s i).params := by
    rw [ready_params]
    exact hbounds
  have hrebase := objectRule_countRebase (h 0x7010) p v
  refine ⟨fun hidle => ?_, fun k hk hbit hbusy => ?_, ?_⟩
  · have hplanes : ∀ k ∈ rebasedPlanes (ready s 0x7010) v.toNat, planeInFlight (ready s 0x7010) k = false := fun k hk => by
      rw [rebasedPlanes_ready, mem_rebasedPlanes] at hk
      obtain ⟨hlt, hbit⟩ := hk
      rw [planeInFlight_ready, hidle k hlt hbit]
    refine ⟨_, row_accepted rfl hs (writeCheck_countRebase hs v) (hrebase.trans (countRebaseDo_idle hplanes)), fun k hk hbit => ?_⟩
    rw [rebasedPlanes_ready]
    have hmem : k ∈ rebasedPlanes s v.toNat := mem_rebasedPlanes.mpr ⟨hk, hbit⟩
    refine ⟨fun u hu => tapZero_rebased (fun k' hk' => ?_) hmem (by simpa using hu),
      fun q i hq hi => quernZero_rebased hmem (by simpa using hq) i hi⟩
    exact Nat.lt_of_lt_of_le (mem_rebasedPlanes.mp hk').1 hbounds.planes
  · refine row_conflict rfl hs (writeCheck_countRebase hs v) (by decide) (hrebase.trans (countRebaseDo_busy (k := k) ?_ ?_))
    · rw [rebasedPlanes_ready]
      exact mem_rebasedPlanes.mpr ⟨hk, hbit⟩
    · rw [planeInFlight_ready, hbusy]
  · refine ⟨_, row_accepted rfl hs (writeCheck_countersClear hs) (objectRule_countersClear (h 0x7001) p _), fun i sub hsub => ?_, rfl⟩
    rw [countersClearDo, odGet_defaultObjects _ _ hsub, nonAudit_ready, odReset_ready]

end Sys2Proof.Machine
end

section
/-! PROOF. Scrub passes (R353, R354, R404). -/

namespace Sys2Proof.Machine

open Sys2Proof.Safety

/-! ### A pass -/

/-- A pass is counted, and with it the `n` codewords that it corrected. -/
def passCounted (s : State) (n : Nat) : State := cntAdd (cnt s 0x7001 0x08) 0x7000 0x0E n

theorem odGet_passCounted (s : State) (n : Nat) {i sub : Nat} (hsub : sub < 256)
    (h : (i, sub) ∉ [(0x7001, 0x08), (0x7000, 0x0E)]) : odGet (passCounted s n) i sub = odGet s i sub := by
  rw [List.mem_cons, List.mem_singleton, not_or] at h
  obtain ⟨hpasses, hcorrected⟩ := h
  exact (odGet_odSet_ne _ _ _ _ _ _ (by decide) hsub hcorrected).trans (odGet_odSet_ne _ _ _ _ _ _ (by decide) hsub hpasses)

theorem odGet_passCounted_passes (s : State) (n : Nat) :
    odGet (passCounted s n) 0x7001 0x08 = min (odGet s 0x7001 0x08 + 1) 0xFFFFFFFF :=
  (odGet_odSet_ne _ _ _ _ _ _ (by decide) (by decide) (by decide)).trans (odGet_odSet_same ..)

theorem odGet_passCounted_corrected (s : State) (n : Nat) :
    odGet (passCounted s n) 0x7000 0x0E = min (odGet s 0x7000 0x0E + n) 0xFFFFFFFF := by
  have hcorrected : odGet (cnt s 0x7001 0x08) 0x7000 0x0E = odGet s 0x7000 0x0E :=
    odGet_odSet_ne _ _ _ _ _ _ (by decide) (by decide) (by decide)
  rw [← hcorrected]
  exact odGet_odSet_same ..

theorem scrubOrder_nil (s : State) : scrubOrder s [] = [] := by
  simp [scrubOrder, List.flatMap_eq_nil_iff]

/-- One location outside the querns is handled as it was found. -/
theorem scrubOrder_singleton {s : State} {l : EccLocation} (hl : failingQuern s l = none) : scrubOrder s [l] = [l] := by
  have hquerns : ((List.range s.params.querns).flatMap fun n => [l].filter fun l => failingQuern s l == some n) = [] :=
    List.flatMap_eq_nil_iff.mpr fun n _ => by simp [hl]
  rw [scrubOrder, hquerns]
  simp [hl]

theorem doScrub_early (n : Nat) (l : List EccLocation) {e : Nat} (h : e < 1000) (s : State) : doScrub n l e s = s := if_pos h

theorem doScrub_clean (n : Nat) {e : Nat} (h : 1000 ≤ e) (s : State) : doScrub n [] e s = passCounted s n := by
  rw [doScrub, if_neg (Nat.not_lt.mpr h), scrubOrder_nil]
  rfl

/-- A pass that finds one uncorrectable codeword outside the querns. -/
theorem doScrub_one (n : Nat) {e : Nat} (h : 1000 ≤ e) {s : State} {l : EccLocation} (hl : failingQuern s l = none) :
    doScrub n [l] e s = eccFound (passCounted s n) l := by
  rw [doScrub, if_neg (Nat.not_lt.mpr h), scrubOrder_singleton hl]
  rfl

theorem gives_scrubPass {s t : State} {n e : Nat} {l : List EccLocation} {P : State → Prop} (h : doScrub n l e s = t) (ht : P t) :
    gives (.scrubPass n l e) s P := ⟨t, congrArg Host.Outcome.next h, ht⟩

/-! ### Flags (R354) -/

/-- The 256 flags of codeword `c` of the flag master. -/
def flagCodeword (c : Nat) : BitVec 4096 := ((2 ^ 256 - 1 : Nat) : BitVec 4096) <<< (256 * c)

theorem getLsbD_flagCodeword {c f : Nat} (hf : f < 4096) : (flagCodeword c).getLsbD f = decide (f / 256 = c) := by
  have hones : ((2 ^ 256 - 1 : Nat) : BitVec 4096).getLsbD (f - 256 * c) = decide (f - 256 * c < 256) := by
    show (BitVec.ofNat 4096 (2 ^ 256 - 1)).getLsbD _ = _
    rw [BitVec.getLsbD_ofNat, Nat.testBit_two_pow_sub_one, decide_eq_true (show f - 256 * c < 4096 by omega), Bool.true_and]
  rw [flagCodeword, BitVec.getLsbD_shiftLeft, hones, Bool.eq_iff_iff]
  simp
  omega

/-- A lost codeword of the flag master writes a record and clears its flags. -/
theorem eccFound_flagMaster (s : State) {c : Nat} (hc : c < 16) :
    ∃ u, SumpOnly s u ∧ eccFound s (.flagMaster c) = flagsWrite u (s.flags &&& ~~~flagCodeword c) :=
  ⟨_, sumpOnly_sumpWrite2 s _ none, if_pos hc⟩

theorem mirror_flagsWrite {s : State} {u : Nat} (h : u < s.taps.length) (v : BitVec 4096) : (tapAt (flagsWrite s v) u).mirror = v := by
  simp [tapAt, flagsWrite, List.getD_eq_getElem?_getD, h]

/-! ### Microcode slots (R354) -/

/-- VALID of a slot that is lost. -/
theorem odGet_setValid_false (s : State) (k : Nat) : odGet (setValid s k false) 0x7F00 0x04 = odGet s 0x7F00 0x04 % 4 &&& (3 - 2 ^ k) :=
  odGet_odSet_same ..

theorem odGet_doCancel (s : State) {sub : Nat} (hsub : sub < 256) (h : sub ≠ 0x0A) :
    odGet (doCancel s) 0x7F00 sub = odGet s 0x7F00 sub := by
  unfold doCancel
  split
  · exact odGet_odSet_sub _ _ _ _ _ h (by decide) hsub
  · rfl

/-- Slot `k` is invalid and of no version, and a swap that was pending is withdrawn. -/
def slotLost (s : State) (k : Nat) : State := doCancel (odSet (setValid s k false) 0x7F00 (0x02 + k) 0)

section
variable (s : State) {k : Nat} (hk : k < 2)
include hk

theorem odGet_slotLost_running : odGet (slotLost s k) 0x7F00 0x01 = odGet s 0x7F00 0x01 := by
  rw [slotLost, odGet_doCancel _ (by decide) (by decide), odGet_odSet_sub _ _ _ _ _ (by omega) (by omega) (by decide)]
  exact odGet_odSet_sub _ _ _ _ _ (by decide) (by decide) (by decide)

theorem odGet_slotLost_valid : odGet (slotLost s k) 0x7F00 0x04 = odGet s 0x7F00 0x04 % 4 &&& (3 - 2 ^ k) := by
  rw [slotLost, odGet_doCancel _ (by decide) (by decide), odGet_odSet_sub _ _ _ _ _ (by omega) (by omega) (by decide),
    odGet_setValid_false]

theorem odGet_slotLost_version : odGet (slotLost s k) 0x7F00 (0x02 + k) = 0 := by
  rw [slotLost, odGet_doCancel _ (by omega) (by omega), odGet_odSet_same]

/-- Of the two bits of VALID, that of slot `k` is cleared and that of the other slot kept. -/
theorem testBit_slotLost : (odGet (slotLost s k) 0x7F00 0x04).testBit k = false ∧
    (odGet (slotLost s k) 0x7F00 0x04).testBit (1 - k) = (odGet s 0x7F00 0x04).testBit (1 - k) := by
  obtain ⟨hlost, hother⟩ : (3 - 2 ^ k).testBit k = false ∧ (3 - 2 ^ k).testBit (1 - k) = true := by
    have hk' : k = 0 ∨ k = 1 := by omega
    rcases hk' with rfl | rfl <;> decide
  have hfour : (odGet s 0x7F00 0x04 % 4).testBit (1 - k) = (odGet s 0x7F00 0x04).testBit (1 - k) := by
    rw [show 4 = 2 ^ 2 from rfl, Nat.testBit_mod_two_pow, decide_eq_true (show 1 - k < 2 by omega), Bool.true_and]
  rw [odGet_slotLost_valid s hk, Nat.testBit_and, Nat.testBit_and, hlost, hother, hfour]
  exact ⟨Bool.and_false _, Bool.and_true _⟩

end

theorem bitOf_eq_testBit (n i : Nat) : bitOf n i = n.testBit i := by
  rw [bitOf, Nat.testBit_eq_decide_div_mod_eq, Nat.shiftRight_eq_div_pow]
  rfl

/-- A lost slot that runs gives way to the other one where that is valid. -/
theorem loseSlot_swapped {s : State} {k : Nat} (hrun : odGet (slotLost s k) 0x7F00 0x01 = k)
    (hvalid : (odGet (slotLost s k) 0x7F00 0x04).testBit (1 - k) = true) : loseSlot s k = odSet (slotLost s k) 0x7F00 0x01 (1 - k) := by
  refine if_pos ?_
  rw [Bool.and_eq_true, decide_eq_true_eq, bitOf_eq_testBit]
  exact ⟨hrun, hvalid⟩

theorem loseSlot_idle {s : State} {k : Nat} (hrun : odGet (slotLost s k) 0x7F00 0x01 ≠ k) : loseSlot s k = slotLost s k := by
  refine if_neg fun h => hrun ?_
  rw [Bool.and_eq_true, decide_eq_true_eq] at h
  exact h.1

theorem odGet_loseSlot (s : State) (k : Nat) {sub : Nat} (hsub : sub < 256) (h : sub ≠ 0x01) :
    odGet (loseSlot s k) 0x7F00 sub = odGet (slotLost s k) 0x7F00 sub := by
  show odGet (ite _ _ _) _ _ = _
  split
  · exact odGet_odSet_sub _ _ _ _ _ h (by decide) hsub
  · rfl

/-- A lost microcode slot writes a record, and the slot is lost. -/
theorem eccFound_microcode (s : State) {k : Nat} (hk : k < 2) :
    ∃ u, SumpOnly (useFree s) u ∧ eccFound s (.microcode k) = loseSlot u k :=
  ⟨_, sumpOnly_sumpWrite2 (useFree s) _ none, if_pos hk⟩

/-! ### Retry buffers (R354) -/

/-- The oldest flit of a retry buffer marked lost. -/
def LatPort.headLost (x : LatPort) : LatPort :=
  { x with retry := match x.retry with | f :: r => { f with lost := true } :: r | [] => [] }

theorem eccFound_latticeRetry (s : State) (p : Nat) : eccFound s (.latticeRetry p) = modLat s p LatPort.headLost := rfl

theorem retry_headLost {x : LatPort} {f : Flit} {r : List Flit} (h : x.retry = f :: r) :
    x.headLost.retry = { f with lost := true } :: r := by
  simp only [LatPort.headLost, h]

/-- Settles O57: each pass is counted, and one lost codeword then acts on its own unit alone. -/
theorem scrubPasses : Obligations.ScrubPasses := by
  unfold Obligations.ScrubPasses
  intro s n e hshape
  refine ⟨fun l h => ?_, fun h => ?_, fun c h hc => ?_, fun k h hk => ?_, fun p f r h hp hretry => ?_⟩
  · exact congrArg Host.Outcome.next (doScrub_early n l h s)
  · exact gives_scrubPass (doScrub_clean n h s) ⟨odGet_passCounted_passes s n, odGet_passCounted_corrected s n,
      fun i sub hsub hmem => odGet_passCounted s n hsub hmem, rfl⟩
  · obtain ⟨u, hu, hfound⟩ := eccFound_flagMaster (passCounted s n) hc
    refine gives_scrubPass ((doScrub_one n h rfl).trans hfound) ⟨fun f hf => ?_, fun t ht => ?_⟩
    · show (s.flags &&& ~~~flagCodeword c).getLsbD f = _
      rw [BitVec.getLsbD_and, BitVec.getLsbD_not, getLsbD_flagCodeword hf, decide_eq_true hf, Bool.true_and, decide_not]
    · have htaps : u.taps = s.taps := (congrArg State.taps hu.frame :)
      refine mirror_flagsWrite ?_ _
      rw [htaps, hshape.taps]
      exact ht
  · obtain ⟨u, hu, hfound⟩ := eccFound_microcode (passCounted s n) hk
    have hobj {sub : Nat} (hsub : sub < 256) : odGet u 0x7F00 sub = odGet s 0x7F00 sub :=
      (hu.objects 0x7F00 sub hsub (by simp)).trans (odGet_passCounted s n hsub (by simp))
    obtain ⟨hlost, hother⟩ := testBit_slotLost u hk
    have hrunning := (odGet_slotLost_running u hk).trans (hobj (by decide))
    rw [hobj (by decide)] at hother
    refine gives_scrubPass ((doScrub_one n h rfl).trans hfound) ⟨?_, ?_, fun hrun hvalid => ?_, fun hrun => ?_⟩
    · rw [odGet_loseSlot u k (by decide) (by decide), hlost]
    · rw [odGet_loseSlot u k (by omega) (by omega), odGet_slotLost_version u hk]
    · rw [loseSlot_swapped (hrunning.trans hrun) (hother.trans hvalid), odGet_odSet_same]
    · rw [loseSlot_idle (by rwa [hrunning]), hrunning]
  · have hlen : p < (passCounted s n).lattice.length := hshape.lattice.symm ▸ hp
    refine gives_scrubPass ((doScrub_one n h rfl).trans (eccFound_latticeRetry _ p)) ⟨?_, fun q hq => ?_⟩
    · rw [latAt_modLat_same _ _ _ hlen]
      exact retry_headLost hretry
    · exact latAt_modLat_other _ _ _ _ hq.symm

end Sys2Proof.Machine
end
